-- ==== Sys2Proof/Word.lean ====
section
/-! DEFINITION. The words of the block: stimulus and response words (R80, R89) and bytes. -/

namespace Sys2Proof

/-- A 32-bit stimulus or response word (R80, R89). -/
abbrev Word := BitVec 32

/-- One of the four byte fields of a word, a payload byte, a status code. -/
abbrev Byte := BitVec 8

end Sys2Proof
end

