-- ==== Sys2Proof/Config.lean ====
section
/-! DEFINITION. The parameters of the block (R7), the two named configurations (R9), and the one value the spec
leaves open (log entry 9). -/

namespace Sys2Proof

/-- The parameters of R7: fixed before reset, changed by no step, readable by no command. -/
structure Config where
  /-- `DEBOUNCE_WINDOW`, in ticks (R123) -/
  debounceWindow : Nat
  /-- `SER_THRESH`, in ticks (R131) -/
  serThresh : Nat
  /-- `RATIO_SCALE` (R129) -/
  ratioScale : Nat
  /-- `RATIO_DIV`, nonzero (R129) -/
  ratioDiv : Nat
  /-- `RATIO_OFFSET` (R129) -/
  ratioOffset : Nat
  /-- `ADC_BITS`, the sample's width (R40, R145) -/
  adcBits : Nat
  /-- `CNT_W`, the counters' width (R24) -/
  cntW : Nat
  /-- `FEAT_MODE` (R126, R128) -/
  featMode : Bool
  /-- `FEAT_RATIO` (R122, R130) -/
  featRatio : Bool
  /-- `FEAT_HEARTBEAT` (R122, R131) -/
  featHeartbeat : Bool
  /-- `FEAT_ADC_GATE` (R142) -/
  featAdcGate : Bool
  /-- `ST_START`, the status expected after START (R103) -/
  stStart : Byte
  /-- `ST_ADDR_ACK`, the status expected after the address byte (R104) -/
  stAddrAck : Byte
  /-- `ST_DATA_ACK`, the status expected after the payload (R105) -/
  stDataAck : Byte
  /-- `TW_WRITE_BIT`, the direction bit of the address byte (R101) -/
  twWriteBit : BitVec 1
  /-- `TW_TIMEOUT`: `none`, or a number of ticks per phase (R108) -/
  twTimeout : Option Nat
  /-- `PREFIX`, the fixed text before the colon (R150) -/
  linePrefix : List Byte
  /-- `NEWLINE` (R150) -/
  newline : List Byte
  /-- `TOGGLE_BYTE`, the received byte that toggles transmission (R154) -/
  toggleByte : Byte
  /-- `SER_EN_RESET` (R45) -/
  serEnReset : Bool
  /-- `TICK_PERIOD` in microseconds; no rule of the block depends on it (R237), host delays do (R178) -/
  tickPeriodUs : Nat
  deriving DecidableEq, Repr

/-- `RICH` (R9): all four features, the defaults of R7. DESIGN CHOICE (log entry 1) for the OPEN parameters: the
values of the spec's examples (window 50, no timeout, prefix "ADC", toggle byte 0x74). Status codes, direction bit
and newline are the spec's defaults (log entry 14). -/
def Config.rich : Config where
  debounceWindow := 50
  serThresh := 500
  ratioScale := 800
  ratioDiv := 1023
  ratioOffset := 200
  adcBits := 10
  cntW := 16
  featMode := true
  featRatio := true
  featHeartbeat := true
  featAdcGate := true
  stStart := 0x08
  stAddrAck := 0x18
  stDataAck := 0x28
  twWriteBit := 0
  twTimeout := none
  linePrefix := [0x41, 0x44, 0x43]
  newline := [0x0A]
  toggleByte := 0x74
  serEnReset := true
  tickPeriodUs := 1000

/-- `BASIC` (R9): all four features off, otherwise as `RICH`. -/
def Config.basic : Config :=
  { Config.rich with featMode := false, featRatio := false, featHeartbeat := false, featAdcGate := false }

/-- FREE VALUE (DESIGN CHOICE, log entry 9): `r[30:0]` of the response of `RD` for a selector whose value has more
than 32 bits, which no rule gives (only with `CNT_W` over 32). It has no body: nothing can be proved of it. -/
opaque Config.wideRead : Byte → Nat → BitVec 31

end Sys2Proof
end

