-- ==== Sys2Proof/Machine/State.lean ====
section
/-! DEFINITION. The state record of the block (R20 to R51), its reset (R52, R220), the output events (R12), and the
reasons a step does not happen (R13). -/

namespace Sys2Proof.Machine

/-- The bus master's position (R48). -/
inductive TwPhase where
  | idle
  | wStart
  | wAddr
  | wData
  deriving DecidableEq, Repr

/-- Which blocking host command is outstanding (R51). -/
inductive HostOp where
  | none
  | tw
  | tx
  | line
  deriving DecidableEq, Repr

/-- The two values of Mode (R28, R127). -/
inductive Mode where
  | idle
  | active
  deriving DecidableEq, Repr

/-- The errors of `TW_WRITE` (R190). -/
inductive BusError where
  | startFailed
  | addressNack
  | dataNack
  | timeout
  deriving DecidableEq, Repr

/-- The output events (R12). -/
inductive OutEvent where
  /-- `TW_START`: request a START condition -/
  | twStart
  /-- `TW_SEND(b)`: request transmission of a byte -/
  | twSend (b : Byte)
  /-- `TW_STOP`: request a STOP condition -/
  | twStop
  /-- `ADC_EN(v)`: the sampler enable line becomes `v` -/
  | adcEn (v : Bool)
  /-- `ADC_TRIG`: trigger one conversion -/
  | adcTrig
  /-- `SER_BYTE(b)`: a byte is written to the serial port's transmit register -/
  | serByte (b : Byte)
  /-- `RSP(w)`: the outstanding host command completes with the response word `w` -/
  | rsp (w : Word)
  deriving DecidableEq, Repr

/-- The state record `st` (R20), with the output trace (R12), the parameters in force (R7; log entry 1) and the
stimuli presented and not yet consumed (R5, R68; log entry 2). Counters and sample are numbers of parametric width
(R24, R40); `Safety.RangeInv` bounds them (log entry 4). -/
structure State where
  /-- the parameters, never changed by a step (R7) -/
  cfg : Config
  /-- the stimulus words the environment presents, oldest first -/
  stimuli : List Word
  /-- the output trace `out`, in step order (R12) -/
  out : List OutEvent
  /-- R21 -/
  debounced : Bool
  /-- R22 -/
  rawSample : Bool
  /-- R23 -/
  prevRaw : Bool
  /-- R25 -/
  reliable : Bool
  /-- R26 -/
  tickCnt : Nat
  /-- R27 -/
  modeCnt : Nat
  /-- R29 -/
  ratioCnt : Nat
  /-- R30 -/
  serCnt : Nat
  /-- R31 -/
  serTrig : Bool
  /-- R32 -/
  outMode : Bool
  /-- R33 -/
  outRatio : Bool
  /-- R40 -/
  sample : Nat
  /-- R41 -/
  convPending : Bool
  /-- R42 -/
  adcEn : Bool
  /-- R45 -/
  serEn : Bool
  /-- R43 -/
  serTxe : Bool
  /-- R44 -/
  rxReady : Bool
  /-- R44 -/
  rxByte : Byte
  /-- R46, next byte at the head -/
  serQ : List Byte
  /-- R47 -/
  serN : Byte
  /-- R48 -/
  twPhase : TwPhase
  /-- R49 -/
  twAddr : BitVec 7
  /-- R49 -/
  twData : Byte
  /-- R50 -/
  twWait : Nat
  /-- R51 -/
  hostOp : HostOp
  deriving DecidableEq, Repr

/-- Nothing stops the block: "There is no fatal-error path" (R193, R198). No reason is raised by anyone (log
entry 12); that is safe, since no run of the model ends in a fault. -/
inductive Fault where
  deriving DecidableEq, Repr

/-- Why no step happens (R13). Each is safe: the model does not go on where the spec defines no step. -/
inductive Refusal where
  /-- raised by an arm of `exec` whose instruction has no meaning yet; no arm does; safe -/
  | notModelled (mnemonic : String)
  /-- raised by `fetch`: no stimulus is presented, and the state changes only in steps (R5); safe -/
  | noStimulus
  /-- raised by `fetch`: the parameters break R7, R8 or R150, and such a configuration is refused; safe -/
  | badConfig
  /-- raised by every host command word presented while another is outstanding (R82, U3); safe -/
  | hostBusy
  /-- raised by `fetch` and by `CONV_DONE`: an event word that no wire of the block can carry (R91, U2); safe -/
  | notStimulus
  deriving DecidableEq, Repr

/-- The state after reset in a given configuration: R52's table, the output trace empty (R220, R221). The values are
the spec's decision D26 (log entry 13); no stimulus is presented yet (log entry 2). -/
def State.resetWith (c : Config) : State where
  cfg := c
  stimuli := []
  out := []
  debounced := false
  rawSample := false
  prevRaw := false
  reliable := false
  tickCnt := 0
  modeCnt := 0
  ratioCnt := 0
  serCnt := 0
  serTrig := false
  outMode := false
  outRatio := false
  sample := 0
  convPending := false
  adcEn := !c.featAdcGate
  serEn := c.serEnReset
  serTxe := true
  rxReady := false
  rxByte := 0#8
  serQ := []
  serN := 0#8
  twPhase := .idle
  twAddr := 0#7
  twData := 0#8
  twWait := 0
  hostOp := .none

/-- The machine right after reset, in the configuration `Config.rich` (log entry 1). -/
def State.reset : State := State.resetWith Config.rich

end Sys2Proof.Machine
end

