-- ==== Sys2Proof/Machine/Flags.lean ====
section
/-! DEFINITION. The flags and tests the steps compute: mode (R127), window boundary (R123), reliability (R124), the
debounced flag (R125), and the strict comparisons of the secondary counters (R130, R131). -/

namespace Sys2Proof.Machine

/-- `mode_cnt mod 2`: 0 is Idle, 1 is Active (R127). -/
def modeOf (modeCnt : Nat) : Mode := if modeCnt % 2 = 0 then .idle else .active

/-- `mode()` (R28, R127). -/
def mode (s : State) : Mode := modeOf s.modeCnt

/-- The number of a mode: Idle 0, Active 1 (R28, R161). -/
def modeCode : Mode → Nat
  | .idle => 0
  | .active => 1

/-- The level of the mode line: 0 in Idle, 1 in Active (R128). -/
def modeLevel : Mode → Bool
  | .idle => false
  | .active => true

/-- A counter has exceeded its threshold: the strict comparison of R123, R130 and R131. -/
def exceeds (cnt threshold : Nat) : Bool := decide (threshold < cnt)

/-- Two consecutive window samples agree (R124). -/
def agrees (raw prevRaw : Bool) : Bool := raw == prevRaw

/-- The debounced flag: the window's sample when it is reliable, false otherwise (R125). -/
def debouncedFlag (reliable rawSample : Bool) : Bool := reliable && rawSample

/-- A status line is to be sent: trigger set, transmission enabled, Idle (R149). -/
def lineDue (s : State) : Bool := s.serTrig && s.serEn && decide (mode s = .idle)

end Sys2Proof.Machine
end

