-- ==== Sys2Proof/Machine/Operands.lean ====
section
/-! DEFINITION. The values the steps compute from operands and fields: the address byte (R101), the derived period
(R129), the decimal text and the status line (R150, R151), the selector map (R161), and the constraint on the
parameters (R7, R8, R150). -/

namespace Sys2Proof.Machine

/-- The address byte `{tw_addr[6:0], TW_WRITE_BIT}` (R101). -/
def addressByte (addr : BitVec 7) (writeBit : BitVec 1) : Byte := addr ++ writeBit

/-- `ratio()` of a sample, in unbounded naturals with truncating division (R129). -/
def ratioOf (c : Config) (sample : Nat) : Nat := sample * c.ratioScale / c.ratioDiv + c.ratioOffset

/-- `ratio()` (R129): from the sample at the moment of use. -/
def ratio (s : State) : Nat := ratioOf s.cfg s.sample

/-- The character code of a decimal digit (R151). -/
def digitByte (d : Nat) : Byte := BitVec.ofNat 8 (0x30 + d)

/-- The decimal digits of `n` in front of `acc`, at most `fuel + 1` of them. -/
def decDigits : Nat → Nat → List Byte → List Byte
  | 0, n, acc => digitByte (n % 10) :: acc
  | fuel + 1, n, acc =>
    if n < 10 then digitByte n :: acc else decDigits fuel (n / 10) (digitByte (n % 10) :: acc)

/-- `dec(n)`: the decimal digits, most significant first, no leading zero (R151). -/
def dec (n : Nat) : List Byte := decDigits n n []

/-- The status line `PREFIX ++ [0x3A, 0x20] ++ dec(sample) ++ NEWLINE` (R150). -/
def statusLine (c : Config) (sample : Nat) : List Byte := c.linePrefix ++ [0x3A#8, 0x20#8] ++ dec sample ++ c.newline

/-- The longest status line of a configuration (R46, R150). -/
def maxLine (c : Config) : Nat := c.linePrefix.length + 2 + (dec (2 ^ c.adcBits - 1)).length + c.newline.length

/-- The types and constraints of the parameters (R7, R8) and the bound on the line (R150). A configuration that
breaks them is refused by `fetch`, not given a meaning (log entry 8). -/
def configValid (c : Config) : Bool :=
  decide (1 ≤ c.debounceWindow) && decide (c.debounceWindow + 2 ≤ 2 ^ c.cntW) && decide (c.serThresh + 2 ≤ 2 ^ c.cntW)
    && decide (1 ≤ c.ratioDiv) && decide (ratioOf c (2 ^ c.adcBits - 1) + 2 ≤ 2 ^ c.cntW)
    && c.twTimeout.all (fun n => decide (1 ≤ n)) && !c.newline.isEmpty && decide (maxLine c ≤ 255)

/-- The selector map (R161): the field or derived value a selector names, `none` for 0x13 to 0xFF (R163). -/
def selectorValue (s : State) (sel : Byte) : Option Nat :=
  if sel = 0x00#8 then some s.debounced.toNat
  else if sel = 0x01#8 then some s.rawSample.toNat
  else if sel = 0x02#8 then some s.prevRaw.toNat
  else if sel = 0x03#8 then some s.reliable.toNat
  else if sel = 0x04#8 then some s.tickCnt
  else if sel = 0x05#8 then some s.modeCnt
  else if sel = 0x06#8 then some (modeCode (mode s))
  else if sel = 0x07#8 then some s.ratioCnt
  else if sel = 0x08#8 then some s.serCnt
  else if sel = 0x09#8 then some s.serTrig.toNat
  else if sel = 0x0A#8 then some s.sample
  else if sel = 0x0B#8 then some s.convPending.toNat
  else if sel = 0x0C#8 then some s.serEn.toNat
  else if sel = 0x0D#8 then some s.outMode.toNat
  else if sel = 0x0E#8 then some s.outRatio.toNat
  else if sel = 0x0F#8 then some (ratio s)
  else if sel = 0x10#8 then some s.adcEn.toNat
  else if sel = 0x11#8 then some s.serTxe.toNat
  else if sel = 0x12#8 then some s.rxReady.toNat
  else none

/-- The response that carries a read value: `r[31] = 0` always (R89, D6), and `r[30:0]` the value's bits as R160 places
them. With `CNT_W` over 31 a value can need bit 31, where R89 and R160 cannot both hold and the model keeps R89's
(DESIGN CHOICE, log entry 9); over 32 bits `r[30:0]` is a free value. -/
def readWord (sel : Byte) (v : Nat) : Word :=
  (if v < 2 ^ 32 then BitVec.ofNat 31 v else Config.wideRead sel v).setWidth 32

end Sys2Proof.Machine
end

