-- ==== Sys2Proof/Machine/Ops.lean ====
section
/-! DEFINITION. The shared operations of R11: emit, respond, raise, the counters' increment (R24), the admission of a
host command (R82), and the serial pump (R147). -/

namespace Sys2Proof.Machine

/-- `emit E` (R11, R12). -/
def State.emit (s : State) (e : OutEvent) : State := { s with out := s.out ++ [e] }

/-- `respond(w)`: emit `RSP(w)` and make the command port ready (R11). -/
def State.respond (s : State) (w : Word) : State := { s.emit (.rsp w) with hostOp := .none }

/-- The codes of R190. -/
def busErrorCode : BusError → Word
  | .startFailed => 1#32
  | .addressNack => 2#32
  | .dataNack => 3#32
  | .timeout => 4#32

/-- `raise BusError(c)` (R11, R190): the block's one way of reporting an error, standing where an exception's entry
would (R198: nothing is vectored or saved). The transaction ends, the code is the response. -/
def State.raiseBusError (s : State) (e : BusError) : State := { s with twPhase := .idle }.respond (busErrorCode e)

/-- The not-executed response (R90, R192). -/
def notExecuted : Word := 0x80000000#32

/-- The increment of every counter, modulo `2^CNT_W` (R24). -/
def inc (c : Config) (v : Nat) : Nat := (v + 1) % 2 ^ c.cntW

/-- A host command is admitted only when none is outstanding (R82); otherwise no step happens (R13, U3). -/
def whenReady (s : State) (t : State) : Host.Outcome State Fault Refusal :=
  if s.hostOp = .none then .next t else .refused .hostBusy

/-- `pump()`: the sequencer writes its next byte if a send is outstanding and the port is empty (R147). -/
def pump (s : State) : State :=
  if (s.hostOp = .tx ∨ s.hostOp = .line) ∧ s.serTxe = true then
    match s.serQ with
    | [] => s
    | [b] => (State.emit { s with serQ := [], serTxe := false } (.serByte b)).respond (s.serN.setWidth 32)
    | b :: b' :: q => State.emit { s with serQ := b' :: q, serTxe := false } (.serByte b)
  else s

end Sys2Proof.Machine
end

