-- ==== Sys2Proof/Machine/Asq.lean ====
section
/-! DEFINITION. ASQ, the analog trigger and the serial byte sequencer: `ADC_START` (R141), `CONV_DONE` (R143),
`SER_TX` (R146), `SER_TXE` (R148), `SER_LINE` (R149), `SER_RX` (R152), `SER_RXPOLL` (R154). -/

namespace Sys2Proof.Machine

/-- The sampler's enable line, driven only when the gate feature is on (R142). -/
def driveAdcEnable (v : Bool) (s : State) : State :=
  if s.cfg.featAdcGate then State.emit { s with adcEn := v } (.adcEn v) else s

/-- `ADC_START` accepted (R141). -/
def startConversion (s : State) : State :=
  State.respond { (driveAdcEnable true s).emit .adcTrig with convPending := true } 0#32

/-- `CONV_DONE sample` captured (R143), stored as received (R145). -/
def captureSample (sample : Nat) (s : State) : State :=
  driveAdcEnable false { s with sample := sample, convPending := false }

/-- Bytes queued for a blocking send, the response value latched, and the first byte pumped (R146, R149). -/
def beginSend (op : HostOp) (bytes : List Byte) (s : State) : State :=
  pump { s with serQ := bytes, serN := BitVec.ofNat 8 bytes.length, hostOp := op }

/-- `SER_LINE` accepted: the trigger is consumed whether or not the line is sent (R149). -/
def sendLine (s : State) : State :=
  if lineDue s then beginSend .line (statusLine s.cfg s.sample) { s with serTrig := false }
  else { s with serTrig := false }.respond 0#32

/-- `SER_RXPOLL` accepted (R154). -/
def pollReceive (s : State) : State :=
  if s.rxReady then
    State.respond { s with rxReady := false, serEn := if s.rxByte = s.cfg.toggleByte then !s.serEn else s.serEn }
      (0x100#32 + s.rxByte.setWidth 32)
  else s.respond 0#32

/-- `ADC_START` (R141). -/
def execAdcStart (s : State) : Host.Outcome State Fault Refusal := whenReady s (startConversion s)

/-- `SER_TX` (R146). -/
def execSerTx (byte : Byte) (s : State) : Host.Outcome State Fault Refusal := whenReady s (beginSend .tx [byte] s)

/-- `SER_LINE` (R149). -/
def execSerLine (s : State) : Host.Outcome State Fault Refusal := whenReady s (sendLine s)

/-- `SER_RXPOLL` (R154). -/
def execSerRxpoll (s : State) : Host.Outcome State Fault Refusal := whenReady s (pollReceive s)

/-- `CONV_DONE` (R143); a sample of `2^ADC_BITS` or more is no stimulus (R91, R145). -/
def execConvDone (sample : BitVec 16) (s : State) : Host.Outcome State Fault Refusal :=
  if sample.toNat < 2 ^ s.cfg.adcBits then .next (captureSample sample.toNat s) else .refused .notStimulus

/-- `SER_TXE` (R148). -/
def execSerTxe (s : State) : Host.Outcome State Fault Refusal := .next (pump { s with serTxe := true })

/-- `SER_RX` (R152); a byte not yet polled is overwritten (R153). -/
def execSerRx (byte : Byte) (s : State) : Host.Outcome State Fault Refusal :=
  .next { s with rxByte := byte, rxReady := true }

end Sys2Proof.Machine
end

