-- ==== Sys2Proof/Machine/Twm.lean ====
section
/-! DEFINITION. TWM, the two-wire bus master: `TW_WRITE` (R102), `TW_READY` by phase (R103 to R106), and its part of
the `TICK` step, the timeout (R108). -/

namespace Sys2Proof.Machine

/-- `TW_WRITE dev, byte` accepted (R102). -/
def startWrite (dev : BitVec 7) (byte : Byte) (s : State) : State :=
  State.emit { s with twAddr := dev, twData := byte, twWait := 0, twPhase := .wStart, hostOp := .tw } .twStart

/-- A ready in `W_START` (R103). -/
def readyStart (status : Byte) (s : State) : State :=
  if status = s.cfg.stStart then
    { s.emit (.twSend (addressByte s.twAddr s.cfg.twWriteBit)) with twWait := 0, twPhase := .wAddr }
  else s.raiseBusError .startFailed

/-- A ready in `W_ADDR` (R104). -/
def readyAddr (status : Byte) (s : State) : State :=
  if status = s.cfg.stAddrAck then { s.emit (.twSend s.twData) with twWait := 0, twPhase := .wData }
  else s.raiseBusError .addressNack

/-- A ready in `W_DATA` (R105). -/
def readyData (status : Byte) (s : State) : State :=
  if status = s.cfg.stDataAck then { s.emit .twStop with twPhase := .idle }.respond 0#32
  else s.raiseBusError .dataNack

/-- A ready, by the phase it ends; none outstanding: nothing (R106). -/
def ready (status : Byte) (s : State) : State :=
  match s.twPhase with
  | .idle => s
  | .wStart => readyStart status s
  | .wAddr => readyAddr status s
  | .wData => readyData status s

/-- The timeout, when the parameter sets one and a phase is outstanding (R108). -/
def busTimeout (s : State) : State :=
  match s.cfg.twTimeout with
  | none => s
  | some n =>
    if s.twPhase = .idle then s
    else if n ≤ inc s.cfg s.twWait then { s with twWait := inc s.cfg s.twWait }.raiseBusError .timeout
    else { s with twWait := inc s.cfg s.twWait }

/-- `TW_WRITE` (R102). -/
def execTwWrite (dev : BitVec 7) (byte : Byte) (s : State) : Host.Outcome State Fault Refusal :=
  whenReady s (startWrite dev byte s)

/-- `TW_READY` (R103 to R106); an event is admitted in every state (R82). -/
def execTwReady (status : Byte) (s : State) : Host.Outcome State Fault Refusal := .next (ready status s)

end Sys2Proof.Machine
end

