-- ==== Sys2Proof/Machine/Dte.lean ====
section
/-! DEFINITION. DTE, the debounce and timing engine: the parts of the `TICK` step (R122 to R131) and the whole step
in their order (R132). -/

namespace Sys2Proof.Machine

/-- Part 1: the counters (R122). -/
def countUp (s : State) : State :=
  { s with
    tickCnt := inc s.cfg s.tickCnt
    ratioCnt := if s.cfg.featRatio then inc s.cfg s.ratioCnt else s.ratioCnt
    serCnt := if s.cfg.featHeartbeat then inc s.cfg s.serCnt else s.serCnt }

/-- Part 2: the sample, at a window boundary only (R124). -/
def sampleWindow (boundary raw : Bool) (s : State) : State :=
  if boundary then { s with reliable := agrees raw s.prevRaw, rawSample := raw, prevRaw := raw, tickCnt := 0 } else s

/-- Part 3: the debounced flag, at every tick (R125). -/
def settleFlag (s : State) : State := { s with debounced := debouncedFlag s.reliable s.rawSample }

/-- Part 4a: the mode-transition counter, at a boundary with the button released (R126). -/
def countMode (boundary : Bool) (s : State) : State :=
  if s.cfg.featMode && boundary && !s.debounced then { s with modeCnt := inc s.cfg s.modeCnt } else s

/-- Part 4b: the mode line (R128). -/
def driveModeLine (s : State) : State := if s.cfg.featMode then { s with outMode := modeLevel (mode s) } else s

/-- Part 4c: the ratio line, in Active (R130). -/
def driveRatioLine (s : State) : State :=
  if s.cfg.featRatio && decide (mode s = .active) && exceeds s.ratioCnt (ratio s) then
    { s with outRatio := !s.outRatio, ratioCnt := 0 }
  else s

/-- Part 4d: the serial-transmit trigger, in Idle (R131). -/
def driveTrigger (s : State) : State :=
  if s.cfg.featHeartbeat && decide (mode s = .idle) && exceeds s.serCnt s.cfg.serThresh then
    { s with serTrig := true, serCnt := 0 }
  else s

/-- The DTE parts of the step, in order, once the counters have counted (R132). -/
def tickParts (boundary raw : Bool) (s : State) : State :=
  driveTrigger (driveRatioLine (driveModeLine (countMode boundary (settleFlag (sampleWindow boundary raw s)))))

/-- DTE's part of `TICK raw` (R132): the counters, the boundary test on the counted value (R123), the parts. -/
def dteStep (raw : Bool) (s : State) : State :=
  tickParts (exceeds (countUp s).tickCnt s.cfg.debounceWindow) raw (countUp s)

/-- `TICK raw`, the whole step: DTE's part, then TWM's timeout (R108, R132). -/
def tickStep (raw : Bool) (s : State) : State := busTimeout (dteStep raw s)

/-- `TICK` (R132); the step always completes, in every state (R120). -/
def execTick (raw : Bool) (s : State) : Host.Outcome State Fault Refusal := .next (tickStep raw s)

end Sys2Proof.Machine
end

