-- ==== Sys2Proof/Machine/HostRead.lean ====
section
/-! DEFINITION. The host's read of shared state, `RD` (R160), and the answer to a host word that spells no command
(R90). -/

namespace Sys2Proof.Machine

/-- The response of `RD sel` (R160, R163). -/
def readResponse (sel : Byte) (s : State) : Word :=
  match selectorValue s sel with
  | some v => readWord sel v
  | none => notExecuted

/-- `RD sel` (R160): no field changes. -/
def execRd (sel : Byte) (s : State) : Host.Outcome State Fault Refusal := whenReady s (s.respond (readResponse sel s))

/-- A host word that spells no command, admitted like any other: consumed, answered, nothing changed (R90). -/
def execNoCommand (s : State) : Host.Outcome State Fault Refusal := whenReady s (s.respond notExecuted)

end Sys2Proof.Machine
end

