-- ==== Sys2Proof/Syntax.lean ====
section
/-! DEFINITION. The stimulus words as terms: one constructor per row of spec/opcode_table.json (R83, R84). -/

namespace Sys2Proof

/-- The six host commands (R83) and the five environment events (R84). -/
inductive Instr where
  /-- `TW_WRITE dev, byte` (R102) -/
  | twWrite (dev : BitVec 7) (byte : Byte)
  /-- `ADC_START` (R141) -/
  | adcStart
  /-- `SER_TX byte` (R146) -/
  | serTx (byte : Byte)
  /-- `SER_LINE` (R149) -/
  | serLine
  /-- `SER_RXPOLL` (R154) -/
  | serRxpoll
  /-- `RD sel` (R160) -/
  | rd (sel : Byte)
  /-- `TICK raw`, `raw` the level of the input line, true for pressed (R121, R132) -/
  | tick (raw : Bool)
  /-- `CONV_DONE sample`: the 16-bit payload `{a, b}` (R81, R86, R143) -/
  | convDone (sample : BitVec 16)
  /-- `TW_READY status` (R103 to R106) -/
  | twReady (status : Byte)
  /-- `SER_TXE` (R148) -/
  | serTxe
  /-- `SER_RX byte` (R152) -/
  | serRx (byte : Byte)
  deriving DecidableEq, Repr

/-- Whether the stimulus is an environment event, the other kind being a host command (R80, R83, R84). -/
def Instr.isEvent : Instr → Bool
  | .twWrite _ _ => false
  | .adcStart => false
  | .serTx _ => false
  | .serLine => false
  | .serRxpoll => false
  | .rd _ => false
  | .tick _ => true
  | .convDone _ => true
  | .twReady _ => true
  | .serTxe => true
  | .serRx _ => true

end Sys2Proof
end

