-- ==== Sys2Proof/Machine/Dispatch.lean ====
section
/-! DEFINITION. One arm per stimulus word (R83, R84). -/

namespace Sys2Proof.Machine

def exec (i : Instr) (s : State) : Host.Outcome State Fault Refusal :=
  match i with
  | .twWrite dev byte => Sys2Proof.Machine.execTwWrite dev byte s
  | .adcStart => Sys2Proof.Machine.execAdcStart s
  | .serTx byte => Sys2Proof.Machine.execSerTx byte s
  | .serLine => Sys2Proof.Machine.execSerLine s
  | .serRxpoll => Sys2Proof.Machine.execSerRxpoll s
  | .rd sel => Sys2Proof.Machine.execRd sel s
  | .tick raw => Sys2Proof.Machine.execTick raw s
  | .convDone sample => Sys2Proof.Machine.execConvDone sample s
  | .twReady status => Sys2Proof.Machine.execTwReady status s
  | .serTxe => Sys2Proof.Machine.execSerTxe s
  | .serRx byte => Sys2Proof.Machine.execSerRx byte s

end Sys2Proof.Machine
end

