-- ==== Sys2Proof/WellFormed.lean ====
section
/-! DEFINITION. Which terms stand for a stimulus word of the block under a configuration. -/

namespace Sys2Proof

/-- A `CONV_DONE` is a stimulus only if its sample is below `2^ADC_BITS` (R81, R86, R91). Every other operand fills
its field, so nothing else can be ill-formed; `RD` of an undefined selector is a word the block answers (R160). -/
def Instr.wellFormed (c : Config) : Instr → Bool
  | .convDone sample => decide (sample.toNat < 2 ^ c.adcBits)
  | .twWrite _ _ => true
  | .adcStart => true
  | .serTx _ => true
  | .serLine => true
  | .serRxpoll => true
  | .rd _ => true
  | .tick _ => true
  | .twReady _ => true
  | .serTxe => true
  | .serRx _ => true

end Sys2Proof
end

