-- ==== Sys2Proof/Decode.lean ====
section
/-! DEFINITION. The decoder of stimulus words, total, rejecting by name (R80 to R92); the encoder after it; the
byte form of a stored trace (R62); and the match and mask of each row as R85 to R88 print them. -/

namespace Sys2Proof

/-- What a 32-bit word is to the block. -/
inductive Decoded where
  /-- the word spells a command or an event -/
  | instr (i : Instr)
  /-- a host word (`w[31] = 0`) that spells no command (R90): consumed and answered -/
  | noCommand
  /-- an event word (`w[31] = 1`) that matches no event (R91): no stimulus, refused -/
  | notStimulus
  deriving DecidableEq, Repr

/-- `op = w[31:24]` (R80). -/
def opField (w : Word) : Byte := w.extractLsb' 24 8

/-- `c = w[23:16]` (R80). -/
def cField (w : Word) : Byte := w.extractLsb' 16 8

/-- `a = w[15:8]` (R80). -/
def aField (w : Word) : Byte := w.extractLsb' 8 8

/-- `b = w[7:0]` (R80). -/
def bField (w : Word) : Byte := w.extractLsb' 0 8

/-- The 16-bit payload `{a, b} = w[15:0]` of format ES (R81, R86). -/
def payload (w : Word) : BitVec 16 := w.extractLsb' 0 16

/-- A word from its four byte fields (R80). -/
def layout (op c a b : Byte) : Word :=
  (op.setWidth 32 <<< 24) ||| (c.setWidth 32 <<< 16) ||| (a.setWidth 32 <<< 8) ||| b.setWidth 32

/-- A row whose must-be-zero fields are checked: the term, or the rejection by name (R90, R91). -/
def accept (zeros : Bool) (i : Instr) (rejected : Decoded) : Decoded := if zeros then .instr i else rejected

/-- The host commands (R83) with their formats (R81): every field that carries no operand is zero. -/
def decodeHost (w : Word) : Decoded :=
  if cField w ≠ 0#8 then .noCommand
  else if opField w = 0x01#8 then
    accept (!(aField w).msb) (.twWrite ((aField w).extractLsb' 0 7) (bField w)) .noCommand
  else if opField w = 0x02#8 then accept (aField w == 0#8 && bField w == 0#8) .adcStart .noCommand
  else if opField w = 0x03#8 then accept (aField w == 0#8) (.serTx (bField w)) .noCommand
  else if opField w = 0x04#8 then accept (aField w == 0#8 && bField w == 0#8) .serLine .noCommand
  else if opField w = 0x05#8 then accept (aField w == 0#8 && bField w == 0#8) .serRxpoll .noCommand
  else if opField w = 0x06#8 then accept (aField w == 0#8) (.rd (bField w)) .noCommand
  else .noCommand

/-- The environment events (R84) with their formats (R81); a `CONV_DONE` sample is below `2^ADC_BITS` (R86). -/
def decodeEvent (cfg : Config) (w : Word) : Decoded :=
  if cField w ≠ 0#8 then .notStimulus
  else if opField w = 0x80#8 then
    accept (aField w == 0#8 && (bField w).extractLsb' 1 7 == 0#7) (.tick ((bField w).getLsbD 0)) .notStimulus
  else if opField w = 0x81#8 then
    accept (decide ((payload w).toNat < 2 ^ cfg.adcBits)) (.convDone (payload w)) .notStimulus
  else if opField w = 0x82#8 then accept (aField w == 0#8) (.twReady (bField w)) .notStimulus
  else if opField w = 0x83#8 then accept (aField w == 0#8 && bField w == 0#8) .serTxe .notStimulus
  else if opField w = 0x84#8 then accept (aField w == 0#8) (.serRx (bField w)) .notStimulus
  else .notStimulus

/-- The decoder: `w[31]` tells a host command from an event (R80). -/
def decode (cfg : Config) (w : Word) : Decoded := if w.msb then decodeEvent cfg w else decodeHost w

/-- The encoder, from the same tables (R81, R83, R84). -/
def encode : Instr → Word
  | .twWrite dev byte => layout 0x01#8 0#8 (dev.setWidth 8) byte
  | .adcStart => layout 0x02#8 0#8 0#8 0#8
  | .serTx byte => layout 0x03#8 0#8 0#8 byte
  | .serLine => layout 0x04#8 0#8 0#8 0#8
  | .serRxpoll => layout 0x05#8 0#8 0#8 0#8
  | .rd sel => layout 0x06#8 0#8 0#8 sel
  | .tick raw => layout 0x80#8 0#8 0#8 ((BitVec.ofBool raw).setWidth 8)
  | .convDone sample => layout 0x81#8 0#8 (sample.extractLsb' 8 8) (sample.extractLsb' 0 8)
  | .twReady status => layout 0x82#8 0#8 0#8 status
  | .serTxe => layout 0x83#8 0#8 0#8 0#8
  | .serRx byte => layout 0x84#8 0#8 0#8 byte

/-- The rows of the opcode map (R83, R84), without operands. -/
inductive Row where
  | twWrite | adcStart | serTx | serLine | serRxpoll | rd | tick | convDone | twReady | serTxe | serRx
  deriving DecidableEq, Repr

/-- The row a term belongs to. -/
def Instr.row : Instr → Row
  | .twWrite _ _ => .twWrite
  | .adcStart => .adcStart
  | .serTx _ => .serTx
  | .serLine => .serLine
  | .serRxpoll => .serRxpoll
  | .rd _ => .rd
  | .tick _ => .tick
  | .convDone _ => .convDone
  | .twReady _ => .twReady
  | .serTxe => .serTxe
  | .serRx _ => .serRx

/-- The `op` values of R83 and R84. -/
def Row.opcode : Row → Byte
  | .twWrite => 0x01
  | .adcStart => 0x02
  | .serTx => 0x03
  | .serLine => 0x04
  | .serRxpoll => 0x05
  | .rd => 0x06
  | .tick => 0x80
  | .convDone => 0x81
  | .twReady => 0x82
  | .serTxe => 0x83
  | .serRx => 0x84

/-- The match words as R85 to R88 print them. -/
def Row.matchWord : Row → Word
  | .twWrite => 0x01000000
  | .adcStart => 0x02000000
  | .serTx => 0x03000000
  | .serLine => 0x04000000
  | .serRxpoll => 0x05000000
  | .rd => 0x06000000
  | .tick => 0x80000000
  | .convDone => 0x81000000
  | .twReady => 0x82000000
  | .serTxe => 0x83000000
  | .serRx => 0x84000000

/-- The masks as R85 to R88 print them, `CONV_DONE`'s for `ADC_BITS = 10`. -/
def Row.maskWord : Row → Word
  | .twWrite => 0xFFFF8000
  | .adcStart => 0xFFFFFFFF
  | .serTx => 0xFFFFFF00
  | .serLine => 0xFFFFFFFF
  | .serRxpoll => 0xFFFFFFFF
  | .rd => 0xFFFFFF00
  | .tick => 0xFFFFFFFE
  | .convDone => 0xFFFFFC00
  | .twReady => 0xFFFFFF00
  | .serTxe => 0xFFFFFFFF
  | .serRx => 0xFFFFFF00

/-- What the front of a stored trace is. -/
inductive DecodedBytes where
  /-- four bytes were read; what their word is, and the bytes after them -/
  | word (d : Decoded) (rest : List Byte)
  /-- fewer than four bytes: no whole word is presented (R63) -/
  | truncated
  deriving DecidableEq, Repr

/-- A stored word is most significant byte first (R62(e)). -/
def decodeBytes (cfg : Config) : List Byte → DecodedBytes
  | op :: c :: a :: b :: rest => .word (decode cfg (layout op c a b)) rest
  | _ => .truncated

/-- A word as a trace stores it (R62(e)). -/
def wordBytes (w : Word) : List Byte := [opField w, cField w, aField w, bField w]

/-- The host's question: the term read from the `nbits` low bits of `w`, in the configuration of `State.reset`. -/
def decodeTableWord (nbits w : Nat) : Option Instr :=
  match decodeBytes Config.rich (wordBytes (BitVec.ofNat 32 (w % 2 ^ nbits))) with
  | .word (.instr i) _ => some i
  | .word .noCommand _ => none
  | .word .notStimulus _ => none
  | .truncated => none

end Sys2Proof
end

