-- ==== Sys2Proof/Machine/Fetch.lean ====
section
/-! DEFINITION. Taking the next stimulus: which word is consumed, what it is, and when there is no step (R5, R8,
R13). -/

namespace Sys2Proof.Machine

/-- What the block finds when it looks for its next stimulus. -/
inductive Fetched where
  /-- a command or an event, with the state in which its word has been consumed -/
  | run (i : Instr) (s : State)
  /-- a host word that spells no command (R90), with the state in which it has been consumed -/
  | answer (s : State)
  /-- no step happens -/
  | refuse (r : Refusal)
  deriving DecidableEq, Repr

/-- The oldest word presented, decoded in the configuration in force; a configuration outside R8 is refused. -/
def fetch (s : State) : Fetched :=
  if configValid s.cfg then
    match s.stimuli with
    | [] => .refuse .noStimulus
    | w :: rest =>
      match decode s.cfg w with
      | .instr i => .run i { s with stimuli := rest }
      | .noCommand => .answer { s with stimuli := rest }
      | .notStimulus => .refuse .notStimulus
  else .refuse .badConfig

/-- The state with a word presented ahead of every other. -/
def State.present (s : State) (w : Word) : State := { s with stimuli := w :: s.stimuli }

end Sys2Proof.Machine
end

