-- ==== Sys2Proof/Machine/Step.lean ====
section
/-! DEFINITION. One step: one stimulus consumed (R5), and the host's placing of a word to be fetched next. -/

namespace Sys2Proof.Machine

/-- One step of the block (R5): accepted, answered with an error, or refused (R13). -/
def step (s : State) : Host.Outcome State Fault Refusal :=
  match fetch s with
  | .run i t => exec i t
  | .answer t => execNoCommand t
  | .refuse r => .refused r

/-- The state with the `nbits` low bits of `w` as the very next stimulus (log entry 2). -/
def State.withFetchWord (s : State) (nbits w : Nat) : State := s.present (BitVec.ofNat 32 (w % 2 ^ nbits))

end Sys2Proof.Machine
end

