-- ==== Sys2Proof/Machine/HostSoftware.lean ====
section
/-! DEFINITION. The host software the source documents (R170 to R185): the pseudo-instructions and the main loop as
programs that issue host commands and go on by their responses, and the traces of the block in which a host follows
such a program. It is one behaviour of agent HOST, outside the block (R4, R53): `step` does not use it and no field of
State belongs to it. -/

namespace Sys2Proof.Machine

/-! ## Parameters -/

/-- The parameters of R171, bit positions as numbers, durations in microseconds. -/
structure LcdParams where
  /-- `LCD_ADDR` -/
  addr : BitVec 7
  /-- `EXP_RS` -/
  rsBit : Nat
  /-- `EXP_RW` -/
  rwBit : Nat
  /-- `EXP_EN` -/
  enBit : Nat
  /-- `EXP_BL` -/
  blBit : Nat
  /-- `EXP_DATA`: the position of the nibble's bit 0, the others above it in order -/
  dataBit : Nat
  /-- `BACKLIGHT` -/
  backlight : Bool
  /-- `LCD_COLS` -/
  cols : Nat
  /-- `LCD_ROWS`; no expansion reads it, the wrap always going to the second line (R176) -/
  rows : Nat
  /-- `CMD_FUNCSET8` -/
  funcSet8 : BitVec 4
  /-- `CMD_SET4BIT` -/
  set4Bit : BitVec 4
  /-- `CMD_FUNCSET` -/
  funcSet : Byte
  /-- `CMD_DISPLAY_OFF` -/
  displayOff : Byte
  /-- `CMD_CLEAR` -/
  clearCmd : Byte
  /-- `CMD_ENTRY_MODE` -/
  entryMode : Byte
  /-- `CMD_DISPLAY_ON` -/
  displayOn : Byte
  /-- `CMD_HOME` -/
  home : Byte
  /-- `CMD_LINE2` -/
  line2 : Byte
  /-- `DELAY_SHORT` -/
  delayShort : Nat
  /-- `DELAY_LONG` -/
  delayLong : Nat
  /-- `DELAY_SETTLE` -/
  delaySettle : Nat
  /-- `HOST_PROPAGATES_ERRORS` (R179) -/
  propagatesErrors : Bool
  deriving DecidableEq, Repr

/-- R171's defaults; the OPEN ones as the examples have them or as log entry 16 says (DESIGN CHOICE). -/
def LcdParams.example95 : LcdParams where
  addr := 0x27
  rsBit := 0
  rwBit := 1
  enBit := 2
  blBit := 3
  dataBit := 4
  backlight := true
  cols := 16
  rows := 2
  funcSet8 := 0x3
  set4Bit := 0x2
  funcSet := 0x28
  displayOff := 0x08
  clearCmd := 0x01
  entryMode := 0x06
  displayOn := 0x0E
  home := 0x02
  line2 := 0xC0
  delayShort := 1000
  delayLong := 15000
  delaySettle := 1000
  propagatesErrors := false

/-! ## Programs of the host -/

/-- A host program: what the host does next, and how it goes on. -/
inductive HostProg (α : Type) where
  /-- the program has ended with a result -/
  | done (a : α)
  /-- issue a command, wait for its response (R185), go on by the response -/
  | command (i : Instr) (next : Word → HostProg α)
  /-- let at least this many microseconds pass (R178), go on -/
  | delay (us : Nat) (next : HostProg α)

/-- One program after another, by the first one's result. -/
def HostProg.bind {α β : Type} : HostProg α → (α → HostProg β) → HostProg β
  | .done a, f => f a
  | .command i next, f => .command i (fun r => (next r).bind f)
  | .delay us next, f => .delay us (next.bind f)

/-- Two parts of a pseudo-instruction: the second is left out when the first surfaces an error, which is then the
result (R179). -/
def andThen (x y : HostProg Word) : HostProg Word := x.bind (fun code => if code = 0#32 then y else .done code)

/-- The parts of a pseudo-instruction, in order, up to the first error (R179); 0 is `Ok`. -/
def inSequence (parts : List (HostProg Word)) : HostProg Word := parts.foldr andThen (.done 0#32)

/-! ## The display driver -/

/-- `delay(d)` (R178). -/
def pause (us : Nat) : HostProg Word := .delay us (.done 0#32)

/-- `write_byte(dev, byte)`: the command and its response (R172). -/
def writeByte (dev : BitVec 7) (byte : Byte) : HostProg Word := .command (.twWrite dev byte) .done

/-- A bus write of the driver (R170): its error is surfaced if the host propagates errors, discarded otherwise
(R179). -/
def driverWrite (p : LcdParams) (byte : Byte) : HostProg Word :=
  (writeByte p.addr byte).bind (fun code => .done (if p.propagatesErrors then code else 0#32))

/-- The control byte of a nibble, enable cleared, the read/write bit 0 (R173). -/
def controlByte (p : LcdParams) (nibble : BitVec 4) (rs : Bool) : Byte :=
  (nibble.setWidth 8 <<< p.dataBit) ||| ((BitVec.ofBool p.backlight).setWidth 8 <<< p.blBit)
    ||| (0#8 <<< p.rwBit) ||| ((BitVec.ofBool rs).setWidth 8 <<< p.rsBit)

/-- `send_nibble(nibble, rs)` (R173). -/
def sendNibble (p : LcdParams) (nibble : BitVec 4) (rs : Bool) : HostProg Word :=
  inSequence [driverWrite p (controlByte p nibble rs ||| (1#8 <<< p.enBit)), pause p.delaySettle,
    driverWrite p (controlByte p nibble rs), pause p.delaySettle]

/-- `write_char(byte, rs)`: the high nibble first (R174). -/
def writeChar (p : LcdParams) (byte : Byte) (rs : Bool) : HostProg Word :=
  andThen (sendNibble p (byte.extractLsb' 4 4) rs) (sendNibble p (byte.extractLsb' 0 4) rs)

/-- `initialize()` (R175). -/
def initializeDisplay (p : LcdParams) : HostProg Word :=
  inSequence [pause p.delayLong,
    sendNibble p p.funcSet8 false, pause p.delayShort,
    sendNibble p p.funcSet8 false, pause p.delayShort,
    sendNibble p p.funcSet8 false, pause p.delayShort,
    sendNibble p p.set4Bit false, pause p.delayShort,
    writeChar p p.funcSet false, pause p.delayShort,
    writeChar p p.displayOff false, pause p.delayShort,
    writeChar p p.clearCmd false, pause p.delayLong,
    writeChar p p.entryMode false, pause p.delayShort,
    writeChar p p.displayOn false, pause p.delayShort]

/-- `write_string` from the character at index `i` on: a wrap before every `LCD_COLS`th character but the first
(R176). -/
def writeStringFrom (p : LcdParams) : Nat → List Byte → HostProg Word
  | _, [] => .done 0#32
  | i, ch :: text =>
    andThen (if 0 < i ∧ i % p.cols = 0 then writeChar p p.line2 false else .done 0#32)
      (andThen (writeChar p ch true) (writeStringFrom p (i + 1) text))

/-- `write_string(text)` (R176); the column count starts at 0 in each call (C10). -/
def writeString (p : LcdParams) (text : List Byte) : HostProg Word := writeStringFrom p 0 text

/-- `clear()` (R177). -/
def clearDisplay (p : LcdParams) : HostProg Word := inSequence [writeChar p p.clearCmd false, pause p.delayLong]

/-- `set_cursor_home()` (R177). -/
def setCursorHome (p : LcdParams) : HostProg Word := inSequence [writeChar p p.home false, pause p.delayLong]

/-! ## The main loop -/

/-- How a frame begins: "clear() and/or set_cursor_home()" (R180). -/
inductive FrameStart where
  | clear
  | home
  | clearAndHome
  deriving DecidableEq, Repr

/-- What the dispatch on the mode decides (R180, R181): one mode's text is formatted from the latest sample, the
other's is fixed, and each mode's frame clears or homes the display in its own way; which, and the texts themselves,
are the host's. -/
structure Screens where
  start : Mode → FrameStart
  formattedMode : Mode
  format : Word → List Byte
  fixedText : List Byte

/-- The "already written" flag as the mode whose screen has been drawn, none when the flag is clear (R183). -/
structure HostState where
  drawn : Option Mode
  deriving DecidableEq, Repr

/-- The mode that `RD MODE` answered: 0 Idle, 1 Active (R28, R161). -/
def modeOfResponse (r : Word) : Mode := if r = 0#32 then .idle else .active

/-- The clearing and homing a frame begins with (R180). -/
def beginFrame (p : LcdParams) (start : FrameStart) : HostProg Word :=
  match start with
  | .clear => clearDisplay p
  | .home => setCursorHome p
  | .clearAndHome => andThen (clearDisplay p) (setCursorHome p)

/-- A frame with its text: the screen cleared or homed, the text written (R180). -/
def drawText (p : LcdParams) (start : FrameStart) (text : List Byte) : HostProg Word :=
  andThen (beginFrame p start) (writeString p text)

/-- The frame of a mode: `RD SAMPLE` first when the mode's text is composed from the sample (R180, R181). -/
def drawFrame (p : LcdParams) (screens : Screens) (m : Mode) : HostProg Word :=
  if m = screens.formattedMode then
    .command (.rd 0x0A#8) (fun sample => drawText p (screens.start m) (screens.format sample))
  else drawText p (screens.start m) screens.fixedText

/-- The frame, unless it is already written (R183). A frame that ends in an error leaves the flag clear, so that the
next iteration draws it again (R179). -/
def refresh (p : LcdParams) (screens : Screens) (h : HostState) (m : Mode) : HostProg HostState :=
  if h.drawn = some m then .done h
  else (drawFrame p screens m).bind (fun code => .done { drawn := if code = 0#32 then some m else none })

/-- One iteration of the main loop (R180): conversion, mode, frame, status line (R182), receive poll (R184). -/
def iteration (p : LcdParams) (screens : Screens) (h : HostState) : HostProg HostState :=
  .command .adcStart (fun _ => .command (.rd 0x06#8) (fun r =>
    (refresh p screens h (modeOfResponse r)).bind (fun h' =>
      .command .serLine (fun _ => .command .serRxpoll (fun _ => .done h')))))

/-- `n` iterations. -/
def iterations (p : LcdParams) (screens : Screens) : Nat → HostState → HostProg HostState
  | 0, h => .done h
  | n + 1, h => (iteration p screens h).bind (iterations p screens n)

/-- The host's software: the display initialized before any other use of it (R185), then `n` iterations, with no
screen drawn. An error of the start is not fatal (R179; log entry 16). -/
def hostMain (p : LcdParams) (screens : Screens) (n : Nat) : HostProg HostState :=
  (initializeDisplay p).bind (fun _ => iterations p screens n { drawn := none })

/-! ## What a program does, given the responses -/

/-- One thing the host does. -/
inductive HostAct where
  | command (i : Instr)
  | delay (us : Nat)
  deriving DecidableEq, Repr

/-- The acts of a program whose commands are answered by the words of a list, in order, and its result; no result
while it waits for a response that the list does not hold. -/
def HostProg.run {α : Type} : HostProg α → List Word → List HostAct × Option α
  | .done a, _ => ([], some a)
  | .command i _, [] => ([.command i], none)
  | .command i next, r :: rs => (.command i :: ((next r).run rs).1, ((next r).run rs).2)
  | .delay us next, rs => (.delay us :: (next.run rs).1, (next.run rs).2)

/-- The payload of an act that is a bus write. -/
def busPayload : HostAct → Option Byte
  | .command (.twWrite _ b) => some b
  | .command _ => none
  | .delay _ => none

/-- The bus writes of a list of acts, their payload bytes in order. -/
def busWrites (acts : List HostAct) : List Byte := acts.filterMap busPayload

/-! ## The traces in which a host follows a program -/

/-- One step of the block, as its trace shows it: the word consumed and the events emitted (R12). -/
structure Observed where
  word : Word
  events : List OutEvent
  deriving DecidableEq, Repr

/-- The step from `s` to `t` that consumed `w`. -/
def observe (w : Word) (s t : State) : Observed where
  word := w
  events := t.out.drop s.out.length

/-- The response among the events of a step, if there is one (R89). -/
def response (o : Observed) : Option Word := o.events.findSome? (fun | .rsp w => some w | _ => none)

/-- The step consumed an event, not a host word (R80). -/
abbrev IsEventStep (o : Observed) : Prop := o.word.msb = true

/-- The step consumed a `TICK`. -/
def isTickStep (o : Observed) : Bool := o.word == encode (.tick false) || o.word == encode (.tick true)

/-- The least number of `TICK` events in a delay (R178). -/
def delayTicks (c : Config) (us : Nat) : Nat := us / c.tickPeriodUs

/-- A stretch of the trace that can be a delay: no host word in it, events consumed all through it, and at least the
delay's number of `TICK` among them; no upper bound (R178). -/
abbrev IsDelay (c : Config) (us : Nat) (stretch : List Observed) : Prop :=
  (∀ o ∈ stretch, IsEventStep o) ∧ delayTicks c us ≤ stretch.countP isTickStep

/-- Where a host is in its program. -/
inductive HostPoint (α : Type) where
  /-- about to do what the program says next -/
  | runs (prog : HostProg α)
  /-- waiting for the response of a command that was accepted and not answered yet -/
  | awaits (next : Word → HostProg α)

/-- The finite traces of the block, from some point on, in which the host follows its program (R172, R178, R180,
R185): it issues the program's commands in order and no other host word, waits for each response before the next
command, and lets each delay pass; events of the other agents are consumed between any two of its steps. -/
inductive Follows {α : Type} (c : Config) : HostPoint α → List Observed → Prop where
  /-- the trace may end anywhere -/
  | stops (h : HostPoint α) : Follows c h []
  /-- an event is consumed before the host's next step; the host is in no hurry -/
  | event {prog : HostProg α} {o : Observed} {rest : List Observed} :
      IsEventStep o → Follows c (.runs prog) rest → Follows c (.runs prog) (o :: rest)
  /-- a command answered in the step that accepts it -/
  | answered {i : Instr} {next : Word → HostProg α} {o : Observed} {r : Word} {rest : List Observed} :
      o.word = encode i → response o = some r → Follows c (.runs (next r)) rest →
        Follows c (.runs (.command i next)) (o :: rest)
  /-- a command accepted and not answered yet -/
  | accepted {i : Instr} {next : Word → HostProg α} {o : Observed} {rest : List Observed} :
      o.word = encode i → response o = none → Follows c (.awaits next) rest →
        Follows c (.runs (.command i next)) (o :: rest)
  /-- an event that does not end the outstanding command -/
  | waits {next : Word → HostProg α} {o : Observed} {rest : List Observed} :
      IsEventStep o → response o = none → Follows c (.awaits next) rest → Follows c (.awaits next) (o :: rest)
  /-- the event that ends the outstanding command -/
  | completed {next : Word → HostProg α} {o : Observed} {r : Word} {rest : List Observed} :
      IsEventStep o → response o = some r → Follows c (.runs (next r)) rest → Follows c (.awaits next) (o :: rest)
  /-- a delay has passed -/
  | delayed {us : Nat} {next : HostProg α} {stretch rest : List Observed} :
      IsDelay c us stretch → Follows c (.runs next) rest → Follows c (.runs (.delay us next)) (stretch ++ rest)

end Sys2Proof.Machine
end

