-- ==== Sys2Proof/Machine/Ports.lean ====
section
/-! DEFINITION. The wire-level form of the interfaces (R94): what one clock edge consumes, and a step's output events
and levels as ports. No rule of the event model depends on it, and `step` does not use it. -/

namespace Sys2Proof.Machine

/-- The input ports at one rising edge of `clk` (R94). -/
structure PortsIn (c : Config) where
  rst : Bool
  cmdValid : Bool
  cmdWord : Word
  tick : Bool
  btnRaw : Bool
  adcDone : Bool
  adcData : BitVec c.adcBits
  twReady : Bool
  twStatus : Byte
  serTxeSet : Bool
  serRxValid : Bool
  serRxd : Byte
  deriving DecidableEq, Repr

/-- The output ports (R94); strobes are low and their data zero where nothing is driven (DESIGN CHOICE, log entry
15: R94 gives data only with its strobe). -/
structure PortsOut where
  cmdReady : Bool
  rspValid : Bool
  rspWord : Word
  outMode : Bool
  outRatio : Bool
  adcEn : Bool
  adcTrig : Bool
  twReq : BitVec 2
  twTx : Byte
  serWr : Bool
  serTxd : Byte
  deriving DecidableEq, Repr

/-- `cmd_ready` is high exactly when no command is outstanding (R82, R94). -/
def cmdReady (s : State) : Bool := decide (s.hostOp = .none)

/-- The two-bit code of the master's phase (R48). -/
def phaseCode : TwPhase → BitVec 2
  | .idle => 0#2
  | .wStart => 1#2
  | .wAddr => 2#2
  | .wData => 3#2

/-- The input interfaces of R94, each with its valid signal. -/
inductive PortStimulus where
  | command
  | tick
  | adcDone
  | twReady
  | serTxe
  | serRx
  deriving DecidableEq, Repr

/-- The valid signal of an interface. -/
def PortsIn.valid {c : Config} (p : PortsIn c) : PortStimulus → Bool
  | .command => p.cmdValid
  | .tick => p.tick
  | .adcDone => p.adcDone
  | .twReady => p.twReady
  | .serTxe => p.serTxeSet
  | .serRx => p.serRxValid

/-- The stimuli presented on an edge: those whose valid signal is high (R94). -/
def PortsIn.presented {c : Config} (p : PortsIn c) : List PortStimulus :=
  [PortStimulus.command, .tick, .adcDone, .twReady, .serTxe, .serRx].filter p.valid

/-- The command port takes a host word (R82, R90). A word with bit 31 set is no host word, and the port takes none
(DESIGN CHOICE, log entry 15). -/
def takeCommand (w : Word) (s : State) : Host.Outcome State Fault Refusal :=
  if w.msb then .refused .notStimulus
  else
    match decode s.cfg w with
    | .instr i => exec i s
    | .noCommand => execNoCommand s
    | .notStimulus => .refused .notStimulus

/-- The step of one interface's stimulus (R94). The sample has the sampler's own width, so every one is in range. -/
def takeStimulus {c : Config} (p : PortsIn c) (x : PortStimulus) (s : State) : Host.Outcome State Fault Refusal :=
  match x with
  | .command => takeCommand p.cmdWord s
  | .tick => exec (.tick p.btnRaw) s
  | .adcDone => .next (captureSample p.adcData.toNat s)
  | .twReady => exec (.twReady p.twStatus) s
  | .serTxe => exec .serTxe s
  | .serRx => exec (.serRx p.serRxd) s

/-- The state after a stimulus is offered: a stimulus that is refused is not consumed, and no step happens (R13). -/
def offer {c : Config} (p : PortsIn c) (s : State) (x : PortStimulus) : State :=
  match takeStimulus p x s with
  | .next t => t
  | .fault _ => s
  | .refused _ => s

/-- `order` is an order of the stimuli of one edge, each once: R94 and R197 leave open which. -/
abbrev IsEdgeOrder {c : Config} (p : PortsIn c) (order : List PortStimulus) : Prop := order.Perm p.presented

/-- The orders of one edge: nothing whose valid signal is low, and everything whose valid signal is high. -/
abbrev EdgeOrder {c : Config} (p : PortsIn c) : Type := Subtype (IsEdgeOrder p)

/-- One rising edge: the state of R52 while `rst` is asserted, otherwise each stimulus presented consumed as a separate
step, in the order given (R94). DESIGN CHOICE (log entry 15), a point R94 leaves open: `cmd_ready` is tested when the command's
turn comes, so a command on an edge with the event that ends the outstanding one is consumed in the orders that put
the event first, and stays presented by the host in the others. -/
def clockEdge (s : State) (p : PortsIn s.cfg) (order : EdgeOrder p) : Host.Outcome State Fault Refusal :=
  if configValid s.cfg then .next (if p.rst then State.resetWith s.cfg else order.val.foldl (offer p) s)
  else .refused .badConfig

/-- One output event on the ports (R94): `tw_req` is 1 for START, 2 for SEND, 3 for STOP. -/
def drivePort (p : PortsOut) : OutEvent → PortsOut
  | .twStart => { p with twReq := 1#2 }
  | .twSend b => { p with twReq := 2#2, twTx := b }
  | .twStop => { p with twReq := 3#2 }
  | .adcEn v => { p with adcEn := v }
  | .adcTrig => { p with adcTrig := true }
  | .serByte b => { p with serWr := true, serTxd := b }
  | .rsp w => { p with rspValid := true, rspWord := w }

/-- The levels of a state, every strobe low (R94). -/
def levels (s : State) : PortsOut where
  cmdReady := cmdReady s
  rspValid := false
  rspWord := 0#32
  outMode := s.outMode
  outRatio := s.outRatio
  adcEn := s.adcEn
  adcTrig := false
  twReq := 0#2
  twTx := 0#8
  serWr := false
  serTxd := 0#8

/-- The output ports during the step from `s` to `t`: the levels of `t`, and a strobe for each event the step
emitted (R12, R94). No step drives one strobe twice. -/
def portsOut (s t : State) : PortsOut := (t.out.drop s.out.length).foldl drivePort (levels t)

/-- The output ports while stimuli are offered in turn, one entry for each: R94 consumes each as a separate step. -/
def offerOutputs {c : Config} (p : PortsIn c) : List PortStimulus → State → List PortsOut
  | [], _ => []
  | x :: order, s => portsOut s (offer p s x) :: offerOutputs p order (offer p s x)

/-- The output ports of the edge `clockEdge s p order`: the levels of R52's state and no strobe while `rst` is
asserted (no step is taken, R221), the levels alone when nothing is presented, otherwise an entry for each step. -/
def edgeOutputs (s : State) (p : PortsIn s.cfg) (order : EdgeOrder p) : List PortsOut :=
  if p.rst then [levels (State.resetWith s.cfg)]
  else if order.val = [] then [levels s]
  else offerOutputs p order.val s

end Sys2Proof.Machine
end

