-- ==== Sys2Proof/Safety.lean ====
section
/-! DEFINITION. The terms claims use: the invariants of the state, the automaton of the bus phases in the output
trace, and the count of responses. -/

namespace Sys2Proof.Safety

open Sys2Proof.Machine

/-- Every field is in its range (R24, R26, R40), in a configuration the model gives a meaning (R8). -/
structure RangeInv (s : State) : Prop where
  config : configValid s.cfg = true
  tickCnt : s.tickCnt ≤ s.cfg.debounceWindow
  modeCnt : s.modeCnt < 2 ^ s.cfg.cntW
  ratioCnt : s.ratioCnt < 2 ^ s.cfg.cntW
  serCnt : s.serCnt < 2 ^ s.cfg.cntW
  twWait : s.twWait < 2 ^ s.cfg.cntW
  sample : s.sample < 2 ^ s.cfg.adcBits

/-- The DTE group between steps: the debounced flag is the reliable sample (R34), the two samples agree (R23), the
mode line shows the mode (R128). -/
structure DteInv (s : State) : Prop where
  debounced : s.debounced = (s.reliable && s.rawSample)
  prevRaw : s.prevRaw = s.rawSample
  outMode : s.outMode = modeLevel (mode s)

/-- What a feature that is off leaves at its reset value (R27, R29, R30), and the enable line (R42). -/
structure FeatureInv (s : State) : Prop where
  mode : s.cfg.featMode = false → s.modeCnt = 0 ∧ s.outMode = false
  ratio : s.cfg.featRatio = false → s.ratioCnt = 0 ∧ s.outRatio = false
  heartbeat : s.cfg.featHeartbeat = false → s.serCnt = 0 ∧ s.serTrig = false
  gated : s.cfg.featAdcGate = true → s.adcEn = s.convPending
  ungated : s.cfg.featAdcGate = false → s.adcEn = true

/-- A serial send is outstanding (R46, R51). -/
abbrev sending (s : State) : Prop := s.hostOp = .tx ∨ s.hostOp = .line

/-- The command port and the two sequencers agree: R48's invariant, R46's on the queue and its length, and an
outstanding send waits for the port to empty (R147). -/
structure PortInv (s : State) : Prop where
  bus : s.twPhase ≠ .idle ↔ s.hostOp = .tw
  queue : s.serQ ≠ [] ↔ sending s
  waiting : sending s → s.serTxe = false
  bound : s.serQ.length ≤ max 1 (maxLine s.cfg)
  counted : s.serQ.length ≤ s.serN.toNat

/-- All of them. -/
structure Inv (s : State) : Prop where
  range : RangeInv s
  dte : DteInv s
  feature : FeatureInv s
  port : PortInv s

/-- One output event seen by an observer of the bus who follows the master's phase (R69, R100); `none` is a phase
request out of sequence. A response ends whatever transaction there is. -/
def busObserve : Option TwPhase → OutEvent → Option TwPhase
  | none, _ => none
  | some p, .twStart => if p = .idle then some .wStart else none
  | some p, .twSend _ =>
    match p with
    | .wStart => some .wAddr
    | .wAddr => some .wData
    | .idle => none
    | .wData => none
  | some p, .twStop => if p = .wData then some .idle else none
  | some _, .rsp _ => some .idle
  | some p, .adcEn _ => some p
  | some p, .adcTrig => some p
  | some p, .serByte _ => some p

/-- The phase such an observer infers from a whole trace. -/
def busTrace (out : List OutEvent) : Option TwPhase := out.foldl busObserve (some .idle)

/-- The event is a response. -/
def isResponse : OutEvent → Bool
  | .rsp _ => true
  | .twStart => false
  | .twSend _ => false
  | .twStop => false
  | .adcEn _ => false
  | .adcTrig => false
  | .serByte _ => false

/-- The event puts something on the two-wire bus or the serial port (R202). -/
def touchesPort : OutEvent → Bool
  | .twStart => true
  | .twSend _ => true
  | .twStop => true
  | .serByte _ => true
  | .adcEn _ => false
  | .adcTrig => false
  | .rsp _ => false

/-- How many commands are outstanding (R51). -/
def outstanding : HostOp → Nat
  | .none => 0
  | .tw => 1
  | .tx => 1
  | .line => 1

/-- Commands answered so far, and the one that is still owed an answer (R89). -/
def commandsTaken (s : State) : Nat := s.out.countP isResponse + outstanding s.hostOp

/-- The DTE group of two states is the same (R20). -/
structure SameDte (s t : State) : Prop where
  debounced : t.debounced = s.debounced
  rawSample : t.rawSample = s.rawSample
  prevRaw : t.prevRaw = s.prevRaw
  reliable : t.reliable = s.reliable
  tickCnt : t.tickCnt = s.tickCnt
  modeCnt : t.modeCnt = s.modeCnt
  ratioCnt : t.ratioCnt = s.ratioCnt
  serCnt : t.serCnt = s.serCnt
  serTrig : t.serTrig = s.serTrig
  outMode : t.outMode = s.outMode
  outRatio : t.outRatio = s.outRatio

/-- The button has been held for two windows and more, and is held (V14, V15): the mode stands still. -/
structure Held (s : State) : Prop where
  debounced : s.debounced = true
  reliable : s.reliable = true
  rawSample : s.rawSample = true
  prevRaw : s.prevRaw = true

end Sys2Proof.Safety
end

