-- ==== Sys2Proof/Certificates/Slice0/Obligations.lean ====
section
/-! DEFINITION. What the provers are asked to prove of the model. Each docstring names the rule it formalises, or the
log entry it rests on. -/

open Sys2Proof Sys2Proof.Machine Sys2Proof.Safety

/-! ## Encoding -/

/-- Every well-formed term is read back from its own word, in every configuration (R81 to R88). -/
def Obligations.DecodeEncodeRoundTrip : Prop :=
  ∀ (c : Config) (i : Instr), i.wellFormed c = true → decode c (encode i) = .instr i

/-- A word that is read as a term is that term's only word, and the term is well-formed: no bit is dropped. -/
def Obligations.EncodeDecodeRoundTrip : Prop :=
  ∀ (c : Config) (w : Word) (i : Instr), decode c w = .instr i → encode i = w ∧ i.wellFormed c = true

/-- With 10-bit samples the decoder gives a row exactly the words that the row's mask and match of R85 to R88 give
it. -/
def Obligations.DecodeAgreesWithMaskAndMatch : Prop :=
  ∀ (c : Config) (w : Word) (r : Row), c.adcBits = 10 →
    (w &&& r.maskWord = r.matchWord ↔ ∃ i, decode c w = .instr i ∧ i.row = r)

/-- R85: which words are `TW_WRITE`, and where its operands stand. -/
def Obligations.TwWriteOperandAssembly : Prop :=
  ∀ (c : Config) (w : Word) (dev : BitVec 7) (byte : Byte),
    decode c w = .instr (.twWrite dev byte) ↔
      w &&& 0xFFFF8000#32 = 0x01000000#32 ∧ dev = w.extractLsb' 8 7 ∧ byte = w.extractLsb' 0 8

/-- R86: which words are `CONV_DONE`, in general and with 10-bit samples, and its sample. -/
def Obligations.ConvDoneOperandAssembly : Prop :=
  ∀ (c : Config) (w : Word),
    (∀ n : BitVec 16, decode c w = .instr (.convDone n) ↔
      w.extractLsb' 16 16 = 0x8100#16 ∧ n = w.extractLsb' 0 16 ∧ n.toNat < 2 ^ c.adcBits) ∧
    (c.adcBits = 10 →
      ((∃ n, decode c w = .instr (.convDone n)) ↔ w &&& 0xFFFFFC00#32 = 0x81000000#32))

/-- R87: which words are `TICK`, and its level. -/
def Obligations.TickOperandAssembly : Prop :=
  ∀ (c : Config) (w : Word) (raw : Bool),
    decode c w = .instr (.tick raw) ↔ w &&& 0xFFFFFFFE#32 = 0x80000000#32 ∧ raw = w.getLsbD 0

/-- R88: the words with a one-byte operand, and the words with none. -/
def Obligations.ByteOperandAssembly : Prop :=
  ∀ (c : Config) (w : Word) (b : Byte),
    (decode c w = .instr (.serTx b) ↔ w &&& 0xFFFFFF00#32 = 0x03000000#32 ∧ b = w.extractLsb' 0 8) ∧
    (decode c w = .instr (.rd b) ↔ w &&& 0xFFFFFF00#32 = 0x06000000#32 ∧ b = w.extractLsb' 0 8) ∧
    (decode c w = .instr (.twReady b) ↔ w &&& 0xFFFFFF00#32 = 0x82000000#32 ∧ b = w.extractLsb' 0 8) ∧
    (decode c w = .instr (.serRx b) ↔ w &&& 0xFFFFFF00#32 = 0x84000000#32 ∧ b = w.extractLsb' 0 8) ∧
    (decode c w = .instr .adcStart ↔ w = 0x02000000#32) ∧
    (decode c w = .instr .serLine ↔ w = 0x04000000#32) ∧
    (decode c w = .instr .serRxpoll ↔ w = 0x05000000#32) ∧
    (decode c w = .instr .serTxe ↔ w = 0x83000000#32)

/-- The words of V31, one per mnemonic, read as the spec reads them. -/
def Obligations.SpecWordsDecode : Prop :=
  ∀ c : Config, c.adcBits = 10 →
    decode c 0x0100270C#32 = .instr (.twWrite 0x27#7 0x0C#8) ∧ decode c 0x02000000#32 = .instr .adcStart ∧
    decode c 0x03000041#32 = .instr (.serTx 0x41#8) ∧ decode c 0x04000000#32 = .instr .serLine ∧
    decode c 0x05000000#32 = .instr .serRxpoll ∧ decode c 0x0600000F#32 = .instr (.rd 0x0F#8) ∧
    decode c 0x80000001#32 = .instr (.tick true) ∧ decode c 0x810001FF#32 = .instr (.convDone 511#16) ∧
    decode c 0x82000018#32 = .instr (.twReady 0x18#8) ∧ decode c 0x83000000#32 = .instr .serTxe ∧
    decode c 0x84000074#32 = .instr (.serRx 0x74#8)

/-- R92: the opcodes 0x00 (with R90), 0x07 to 0x7F and 0x85 to 0xFF have no meaning, whatever the other bits. -/
def Obligations.ReservedOpcodesHaveNoMeaning : Prop :=
  ∀ (c : Config) (w : Word),
    (w.toNat / 2 ^ 24 = 0 ∨ (0x07 ≤ w.toNat / 2 ^ 24 ∧ w.toNat / 2 ^ 24 ≤ 0x7F) → decode c w = .noCommand) ∧
    (0x85 ≤ w.toNat / 2 ^ 24 → decode c w = .notStimulus)

/-! ## The step, admission and refusals -/

/-- When the next word decodes to a term, the step runs it with the word consumed. The guard on the configuration is
the model's place for R8 (log entry 8). -/
def Obligations.StepRunsDecodedStimulus : Prop :=
  ∀ (s : State) (w : Word) (rest : List Word) (i : Instr),
    configValid s.cfg = true → s.stimuli = w :: rest → decode s.cfg w = .instr i →
      step s = exec i { s with stimuli := rest }

/-- R90: a host word that spells no command is consumed, changes nothing and is answered, when it is admitted; presented
while a command is outstanding it is refused like any other host word (R82, R13; log entry 5). The first case is a
reserved `op` or a nonzero must-be-zero field, the second an undefined `RD` selector (log entry 6). -/
def Obligations.IllegalHostWordAnswered : Prop :=
  ∀ (s : State) (w : Word) (rest : List Word),
    configValid s.cfg = true → s.stimuli = w :: rest → w.msb = false →
      ((∀ i, decode s.cfg w ≠ .instr i) ∨ (w.extractLsb' 8 24 = 0x060000#24 ∧ 0x13 ≤ (w.extractLsb' 0 8).toNat)) →
        (s.hostOp = .none → step s = .next { s with stimuli := rest, out := s.out ++ [.rsp 0x80000000#32] }) ∧
        (s.hostOp ≠ .none → step s = .refused .hostBusy)

/-- R91: an event word that matches no row is refused: no step happens. -/
def Obligations.IllegalEventWordRefused : Prop :=
  ∀ (s : State) (w : Word) (rest : List Word),
    configValid s.cfg = true → s.stimuli = w :: rest → w.msb = true → (∀ i, decode s.cfg w ≠ .instr i) →
      step s = .refused .notStimulus

/-- R82: every event word is admitted in every state; a host command is admitted exactly when none is outstanding, and
is refused otherwise. -/
def Obligations.AdmissionOfStimuli : Prop :=
  ∀ (i : Instr) (s : State), i.wellFormed s.cfg = true →
    (i.isEvent = true → ∃ t, exec i s = .next t) ∧
    (i.isEvent = false → s.hostOp = .none → ∃ t, exec i s = .next t) ∧
    (i.isEvent = false → s.hostOp ≠ .none → exec i s = .refused .hostBusy)

/-- R5 and R7: a step that happens consumes exactly one stimulus, the oldest, and changes no parameter. -/
def Obligations.StepConsumesOneStimulus : Prop :=
  ∀ s t : State, step s = .next t → t.cfg = s.cfg ∧ ∃ w, s.stimuli = w :: t.stimuli

/-- The refused configurations are exactly those outside R7's types (a zero window, divisor or timeout, an empty
newline), outside R8 (a counter could wrap before it exceeds its threshold), or with a status line over 255 bytes
(R150). The rules say that such a configuration is refused, and not when: that every step refuses it, with or without
a stimulus, under this name before any other, is the model's choice (log entries 8 and 19). -/
def Obligations.UnsafeConfigurationRefused : Prop :=
  ∀ s : State, step s = .refused .badConfig ↔
    (s.cfg.debounceWindow = 0 ∨ s.cfg.ratioDiv = 0 ∨ s.cfg.twTimeout = some 0 ∨ s.cfg.newline = [] ∨
      2 ^ s.cfg.cntW < s.cfg.ratioOffset + (2 ^ s.cfg.adcBits - 1) * s.cfg.ratioScale / s.cfg.ratioDiv + 2 ∨
      2 ^ s.cfg.cntW < s.cfg.debounceWindow + 2 ∨ 2 ^ s.cfg.cntW < s.cfg.serThresh + 2 ∨
      ∃ n, n < 2 ^ s.cfg.adcBits ∧
        255 < (s.cfg.linePrefix ++ [0x3A#8, 0x20#8] ++ dec n ++ s.cfg.newline).length)

/-! ## TWM -/

/-- R102: what accepting a `TW_WRITE` writes, and that it writes nothing else. -/
def Obligations.TwWriteAccepted : Prop :=
  ∀ (s : State) (dev : BitVec 7) (byte : Byte), s.hostOp = .none →
    exec (.twWrite dev byte) s =
      .next { s with
        twAddr := dev, twData := byte, twWait := 0, twPhase := .wStart, hostOp := .tw, out := s.out ++ [.twStart] }

/-- R103: a ready in the START phase, on every status. -/
def Obligations.ReadyAfterStart : Prop :=
  ∀ (s : State) (status : Byte), s.twPhase = .wStart →
    exec (.twReady status) s =
      .next (if status = s.cfg.stStart then
        { s with out := s.out ++ [.twSend (s.twAddr ++ s.cfg.twWriteBit)], twWait := 0, twPhase := .wAddr }
      else { s with out := s.out ++ [.rsp 1#32], twPhase := .idle, hostOp := .none })

/-- R104: a ready in the address phase, on every status. -/
def Obligations.ReadyAfterAddress : Prop :=
  ∀ (s : State) (status : Byte), s.twPhase = .wAddr →
    exec (.twReady status) s =
      .next (if status = s.cfg.stAddrAck then
        { s with out := s.out ++ [.twSend s.twData], twWait := 0, twPhase := .wData }
      else { s with out := s.out ++ [.rsp 2#32], twPhase := .idle, hostOp := .none })

/-- R105: a ready in the data phase, on every status: STOP and success, or an error and no STOP. -/
def Obligations.ReadyAfterData : Prop :=
  ∀ (s : State) (status : Byte), s.twPhase = .wData →
    exec (.twReady status) s =
      .next (if status = s.cfg.stDataAck then
        { s with out := s.out ++ [.twStop, .rsp 0#32], twPhase := .idle, hostOp := .none }
      else { s with out := s.out ++ [.rsp 3#32], twPhase := .idle, hostOp := .none })

/-- R106: a ready with no phase outstanding changes nothing and emits nothing. -/
def Obligations.ReadyWhileIdleIgnored : Prop :=
  ∀ (s : State) (status : Byte), s.twPhase = .idle → exec (.twReady status) s = .next s

/-- R101: the byte sent after START has the device address in bits 7 to 1 and the direction bit in bit 0; with the
default bit, device 0x27 gives 0x4E and 0x7F gives 0xFE. -/
def Obligations.AddressByteLayout : Prop :=
  ∀ s : State, s.twPhase = .wStart →
    ∃ t b, exec (.twReady s.cfg.stStart) s = .next t ∧ t.out = s.out ++ [.twSend b] ∧
      b.toNat = 2 * s.twAddr.toNat + s.cfg.twWriteBit.toNat ∧
      (s.cfg.twWriteBit = 0#1 → (s.twAddr = 0x27#7 → b = 0x4E#8) ∧ (s.twAddr = 0x7F#7 → b = 0xFE#8))

/-- A transaction every phase of which the bus answers with the expected code goes START, address, payload, STOP, and
succeeds (R100, R102 to R105); everything but the transaction's own fields is as before. -/
def Obligations.AnsweredWriteSucceeds : Prop :=
  ∀ (s : State) (dev : BitVec 7) (byte : Byte) (rest : List Word),
    configValid s.cfg = true → s.hostOp = .none →
      s.stimuli = encode (.twWrite dev byte) :: encode (.twReady s.cfg.stStart) :: encode (.twReady s.cfg.stAddrAck) ::
        encode (.twReady s.cfg.stDataAck) :: rest →
      Host.Core.run Sys2Proof.core 4 s =
        .next { s with
          stimuli := rest, twAddr := dev, twData := byte, twWait := 0, twPhase := .idle, hostOp := .none,
          out := s.out ++ [.twStart, .twSend (dev ++ s.cfg.twWriteBit), .twSend byte, .twStop, .rsp 0#32] }

/-- While a `TW_WRITE` is outstanding, a step that answers with an error code emits that response and nothing else (no
STOP, no byte), and leaves no phase outstanding (R107, R190). -/
def Obligations.FailedWriteEndsAtOnce : Prop :=
  ∀ (i : Instr) (s t : State) (es : List OutEvent) (code : Word),
    s.hostOp = .tw → exec i s = .next t → t.out = s.out ++ es → .rsp code ∈ es → code ≠ 0#32 →
      es = [.rsp code] ∧ t.twPhase = .idle ∧ t.hostOp = .none ∧ 1 ≤ code.toNat ∧ code.toNat ≤ 4

/-- R108: with `TW_TIMEOUT = n`, a phase that has just been issued ends in `RSP(4)` at the `n`-th tick with no ready
between, and not before: after `k < n` ticks it still waits. The bound on `n` keeps `tw_wait` from wrapping (log
entry 18). -/
def Obligations.UnansweredPhaseTimesOut : Prop :=
  ∀ (s : State) (n : Nat) (raws : List Bool) (rest : List Word),
    configValid s.cfg = true → s.cfg.twTimeout = some n → n < 2 ^ s.cfg.cntW → s.twPhase ≠ .idle → s.twWait = 0 →
      s.stimuli = raws.map (fun raw => encode (.tick raw)) ++ rest →
      (raws.length < n → ∃ t, Host.Core.run Sys2Proof.core raws.length s = .next t ∧
        t.twPhase = s.twPhase ∧ t.hostOp = s.hostOp ∧ t.out = s.out ∧ t.twWait = raws.length) ∧
      (raws.length = n → ∃ t, Host.Core.run Sys2Proof.core raws.length s = .next t ∧
        t.twPhase = .idle ∧ t.hostOp = .none ∧ t.out = s.out ++ [.rsp 4#32])

/-- R109: with no timeout, nothing but a ready moves an outstanding transaction: no step of any other kind changes the
phase or frees the host. -/
def Obligations.UnansweredWriteHangs : Prop :=
  ∀ (i : Instr) (s t : State), PortInv s → s.cfg.twTimeout = none → s.twPhase ≠ .idle →
    (∀ status, i ≠ .twReady status) → exec i s = .next t →
      t.twPhase = s.twPhase ∧ t.hostOp = .tw ∧ t.twAddr = s.twAddr ∧ t.twData = s.twData

/-! ## DTE -/

/-- R132 with its parts R122, R124, R125, R126, R128, R130, R131, and R108 after them: every field a `TICK` writes,
with the value the rules give it; every other field and, but for a timeout's response, the trace are as before. -/
def Obligations.TickWholeStep : Prop :=
  ∀ (raw : Bool) (s : State),
    let tick := (s.tickCnt + 1) % 2 ^ s.cfg.cntW
    let ratioCnt := if s.cfg.featRatio then (s.ratioCnt + 1) % 2 ^ s.cfg.cntW else s.ratioCnt
    let serCnt := if s.cfg.featHeartbeat then (s.serCnt + 1) % 2 ^ s.cfg.cntW else s.serCnt
    let boundary := s.cfg.debounceWindow < tick
    let reliable := if boundary then raw == s.prevRaw else s.reliable
    let sampled := if boundary then raw else s.rawSample
    let pressed := reliable && sampled
    let modeCnt :=
      if s.cfg.featMode = true ∧ boundary ∧ pressed = false then (s.modeCnt + 1) % 2 ^ s.cfg.cntW else s.modeCnt
    let toggle := s.cfg.featRatio = true ∧ modeCnt % 2 = 1 ∧
      s.sample * s.cfg.ratioScale / s.cfg.ratioDiv + s.cfg.ratioOffset < ratioCnt
    let trigger := s.cfg.featHeartbeat = true ∧ modeCnt % 2 = 0 ∧ s.cfg.serThresh < serCnt
    let wait := (s.twWait + 1) % 2 ^ s.cfg.cntW
    let counting := s.cfg.twTimeout ≠ none ∧ s.twPhase ≠ .idle
    let expired := s.twPhase ≠ .idle ∧ ∃ n, s.cfg.twTimeout = some n ∧ n ≤ wait
    ∃ t, exec (.tick raw) s = .next t ∧
      t = { s with
        tickCnt := if boundary then 0 else tick
        reliable := reliable
        rawSample := sampled
        prevRaw := if boundary then raw else s.prevRaw
        debounced := pressed
        modeCnt := modeCnt
        outMode := if s.cfg.featMode then modeCnt % 2 == 1 else s.outMode
        ratioCnt := if toggle then 0 else ratioCnt
        outRatio := if toggle then !s.outRatio else s.outRatio
        serCnt := if trigger then 0 else serCnt
        serTrig := if trigger then true else s.serTrig
        twWait := t.twWait, twPhase := t.twPhase, hostOp := t.hostOp, out := t.out } ∧
      (counting → t.twWait = wait) ∧ (¬ counting → t.twWait = s.twWait) ∧
      (expired → t.twPhase = .idle ∧ t.hostOp = .none ∧ t.out = s.out ++ [.rsp 4#32]) ∧
      (¬ expired → t.twPhase = s.twPhase ∧ t.hostOp = s.hostOp ∧ t.out = s.out)

/-- R134(a): the debounced flag changes only in a `TICK` at a window boundary, and becomes true only if that window's
sample and the one before are both 1. -/
def Obligations.DebouncedChangesOnlyAtBoundary : Prop :=
  ∀ s t : State, DteInv s → step s = .next t → t.debounced ≠ s.debounced →
    ∃ (raw : Bool) (rest : List Word), s.stimuli = encode (.tick raw) :: rest ∧
      s.cfg.debounceWindow < (s.tickCnt + 1) % 2 ^ s.cfg.cntW ∧
      (t.debounced = true → raw = true ∧ s.prevRaw = true)

/-- R134(b): with `FEAT_MODE`, the mode toggles at a window boundary exactly when the flag reads "not pressed" after
it, and at no other tick. -/
def Obligations.ModeTogglesPerReleasedWindow : Prop :=
  ∀ (raw : Bool) (s : State), configValid s.cfg = true → s.cfg.featMode = true →
    ∃ t, exec (.tick raw) s = .next t ∧
      (mode t ≠ mode s ↔ s.cfg.debounceWindow < (s.tickCnt + 1) % 2 ^ s.cfg.cntW ∧ t.debounced = false)

/-- Window boundaries are `DEBOUNCE_WINDOW + 1` ticks apart (R123, R236): from a zeroed tick counter, `k` ticks leave
it at `k` up to the window, and one more zeroes it. -/
def Obligations.WindowBoundariesAreEvenlySpaced : Prop :=
  ∀ (s : State) (raws : List Bool) (rest : List Word),
    configValid s.cfg = true → s.tickCnt = 0 → s.stimuli = raws.map (fun raw => encode (.tick raw)) ++ rest →
      raws.length ≤ s.cfg.debounceWindow + 1 →
      ∃ t, Host.Core.run Sys2Proof.core raws.length s = .next t ∧ t.stimuli = rest ∧
        t.tickCnt = if raws.length = s.cfg.debounceWindow + 1 then 0 else raws.length

/-- While Active with the button held and the sample unchanged, the ratio line toggles every `ratio() + 1` ticks (R130,
R236): not before, and then with its counter zeroed. -/
def Obligations.RatioLineTogglePeriod : Prop :=
  ∀ (s : State) (k : Nat) (rest : List Word),
    RangeInv s → Held s → s.cfg.featRatio = true → mode s = .active → s.ratioCnt = 0 →
      s.stimuli = List.replicate k (encode (.tick true)) ++ rest → k ≤ ratio s + 1 →
      ∃ t, Host.Core.run Sys2Proof.core k s = .next t ∧ Held t ∧ mode t = .active ∧
        (if k = ratio s + 1 then t.outRatio = (!s.outRatio) ∧ t.ratioCnt = 0
        else t.outRatio = s.outRatio ∧ t.ratioCnt = k)

/-- While Idle with the button held, the serial trigger is set at tick `SER_THRESH + 1` and not before (R131, R236). -/
def Obligations.SerialTriggerPeriod : Prop :=
  ∀ (s : State) (k : Nat) (rest : List Word),
    RangeInv s → Held s → s.cfg.featHeartbeat = true → mode s = .idle → s.serCnt = 0 → s.serTrig = false →
      s.stimuli = List.replicate k (encode (.tick true)) ++ rest →
      k ≤ s.cfg.serThresh + 1 →
      ∃ t, Host.Core.run Sys2Proof.core k s = .next t ∧ Held t ∧ mode t = .idle ∧
        (if k = s.cfg.serThresh + 1 then t.serTrig = true ∧ t.serCnt = 0 else t.serTrig = false ∧ t.serCnt = k)

/-- Two states that agree on the parameters, the DTE group and the sample agree on the DTE group after the same
`TICK`: nothing of the bus master or the serial port reaches the timing engine (R120, R140, R201). -/
def Obligations.TimingEngineIsolated : Prop :=
  ∀ (raw : Bool) (s₁ s₂ : State), s₂.cfg = s₁.cfg → s₂.sample = s₁.sample → SameDte s₁ s₂ →
    ∃ t₁ t₂, exec (.tick raw) s₁ = .next t₁ ∧ exec (.tick raw) s₂ = .next t₂ ∧ SameDte t₁ t₂

/-! ## ASQ -/

/-- R141 and R142: what accepting an `ADC_START` writes and emits, with and without the gate. -/
def Obligations.AdcStartAccepted : Prop :=
  ∀ s : State, s.hostOp = .none →
    exec .adcStart s =
      .next { s with
        convPending := true
        adcEn := if s.cfg.featAdcGate then true else s.adcEn
        out := s.out ++ (if s.cfg.featAdcGate then [.adcEn true] else []) ++ [.adcTrig, .rsp 0#32] }

/-- R143: what a completed conversion writes and emits, with and without the gate, requested or not. -/
def Obligations.ConvDoneCaptured : Prop :=
  ∀ (s : State) (n : BitVec 16), n.toNat < 2 ^ s.cfg.adcBits →
    exec (.convDone n) s =
      .next { s with
        sample := n.toNat
        convPending := false
        adcEn := if s.cfg.featAdcGate then false else s.adcEn
        out := s.out ++ (if s.cfg.featAdcGate then [.adcEn false] else []) }

/-- R144: nothing but `ADC_START` emits `ADC_TRIG`, and it emits one. -/
def Obligations.OnlyAdcStartTriggers : Prop :=
  ∀ (i : Instr) (s t : State), exec i s = .next t →
    t.out.count .adcTrig = s.out.count .adcTrig + (if i = .adcStart then 1 else 0)

/-- R146: a one-byte send, at once when the port is empty (R147), outstanding otherwise; not gated by `ser_en`. -/
def Obligations.SerTxAccepted : Prop :=
  ∀ (s : State) (byte : Byte), s.hostOp = .none →
    exec (.serTx byte) s =
      .next (if s.serTxe = true then
        { s with serQ := [], serN := 1#8, serTxe := false, out := s.out ++ [.serByte byte, .rsp 1#32] }
      else { s with serQ := [byte], serN := 1#8, hostOp := .tx })

/-- R148 with R147: the port has become empty. With a send outstanding the next byte goes out in the same step, and the
last byte answers the command; with none, or nothing queued, only `ser_txe` is set. -/
def Obligations.SerTxeStep : Prop :=
  ∀ s : State,
    (sending s → ∀ (b : Byte) (q : List Byte), s.serQ = b :: q →
      exec .serTxe s =
        .next (if q = [] then
          { s with
            serQ := [], serTxe := false, hostOp := .none
            out := s.out ++ [.serByte b, .rsp (BitVec.ofNat 32 s.serN.toNat)] }
        else { s with serQ := q, serTxe := false, out := s.out ++ [.serByte b] })) ∧
    ((¬ sending s ∨ s.serQ = []) → exec .serTxe s = .next { s with serTxe := true })

/-- R149 with R150: the trigger is consumed; the line goes out exactly when the trigger was set, transmission is
enabled and the mode is Idle, its first byte at once if the port is empty; otherwise the answer is 0. -/
def Obligations.SerLineAccepted : Prop :=
  ∀ s : State, s.hostOp = .none →
    let line := s.cfg.linePrefix ++ [0x3A#8, 0x20#8] ++ dec s.sample ++ s.cfg.newline
    exec .serLine s =
      .next (if s.serTrig = true ∧ s.serEn = true ∧ s.modeCnt % 2 = 0 then
        (if s.serTxe = true then
          { s with
            serTrig := false, serQ := line.tail, serN := BitVec.ofNat 8 line.length, hostOp := .line, serTxe := false
            out := s.out ++ [.serByte (line.headD 0#8)] }
        else { s with serTrig := false, serQ := line, serN := BitVec.ofNat 8 line.length, hostOp := .line })
      else { s with serTrig := false, out := s.out ++ [.rsp 0#32] })

/-- R151: the decimal text of a number: only digits, no leading zero, most significant first; and the spec's
instances. -/
def Obligations.DecimalTextOfSample : Prop :=
  (∀ n : Nat, (dec n).foldl (fun v d => 10 * v + (d.toNat - 0x30)) 0 = n ∧
    (∀ d ∈ dec n, 0x30 ≤ d.toNat ∧ d.toNat ≤ 0x39) ∧ (n ≠ 0 → (dec n).head? ≠ some 0x30#8)) ∧
  dec 0 = [0x30#8] ∧ dec 7 = [0x37#8] ∧ dec 42 = [0x34#8, 0x32#8] ∧ dec 511 = [0x35#8, 0x31#8, 0x31#8] ∧
  dec 1023 = [0x31#8, 0x30#8, 0x32#8, 0x33#8]

/-- An outstanding send whose port reports empty once per queued byte writes exactly the queued bytes, in order, and
then answers with the count latched at its acceptance (R146 to R149). -/
def Obligations.OutstandingSendDrains : Prop :=
  ∀ (s : State) (rest : List Word), configValid s.cfg = true → sending s → s.serQ ≠ [] →
    s.stimuli = List.replicate s.serQ.length (encode .serTxe) ++ rest →
      Host.Core.run Sys2Proof.core s.serQ.length s =
        .next { s with
          stimuli := rest, serQ := [], serTxe := false, hostOp := .none
          out := s.out ++ s.serQ.map .serByte ++ [.rsp (BitVec.ofNat 32 s.serN.toNat)] }

/-- R155: nothing but `SER_TXE` moves an outstanding send, and no timeout applies to it. -/
def Obligations.UnansweredSendHangs : Prop :=
  ∀ (i : Instr) (s t : State), PortInv s → sending s → i ≠ .serTxe → exec i s = .next t →
    t.hostOp = s.hostOp ∧ t.serQ = s.serQ ∧ t.serN = s.serN ∧ t.serTxe = false

/-- R152 and R153: a received byte is stored and flagged, over one not yet polled too, and nothing else changes. -/
def Obligations.SerRxStored : Prop :=
  ∀ (s : State) (byte : Byte), exec (.serRx byte) s = .next { s with rxByte := byte, rxReady := true }

/-- R154: the receive poll, with a byte waiting (the toggling one or another) and with none. -/
def Obligations.ReceivePollAccepted : Prop :=
  ∀ s : State, s.hostOp = .none →
    exec .serRxpoll s =
      .next (if s.rxReady = true then
        { s with
          rxReady := false
          serEn := if s.rxByte = s.cfg.toggleByte then !s.serEn else s.serEn
          out := s.out ++ [.rsp (BitVec.ofNat 32 (0x100 + s.rxByte.toNat))] }
      else { s with out := s.out ++ [.rsp 0#32] })

/-! ## RD -/

/-- R161's map and R160's response: `RD` of a defined selector answers the field's value, with `r[31] = 0` (R89), and
changes nothing. With `CNT_W` over 31 a value can need more than `r[30:0]`; the clauses on it are log entry 9: bit 31 is
R89's, and over 32 bits `r[30:0]` is the model's free value. -/
def Obligations.ReadOfDefinedSelector : Prop :=
  ∀ (s : State) (sel : Byte) (v : Nat), s.hostOp = .none →
    (sel, v) ∈ [(0x00#8, s.debounced.toNat), (0x01#8, s.rawSample.toNat), (0x02#8, s.prevRaw.toNat),
      (0x03#8, s.reliable.toNat), (0x04#8, s.tickCnt), (0x05#8, s.modeCnt), (0x06#8, s.modeCnt % 2),
      (0x07#8, s.ratioCnt), (0x08#8, s.serCnt), (0x09#8, s.serTrig.toNat), (0x0A#8, s.sample),
      (0x0B#8, s.convPending.toNat), (0x0C#8, s.serEn.toNat), (0x0D#8, s.outMode.toNat), (0x0E#8, s.outRatio.toNat),
      (0x0F#8, s.sample * s.cfg.ratioScale / s.cfg.ratioDiv + s.cfg.ratioOffset), (0x10#8, s.adcEn.toNat),
      (0x11#8, s.serTxe.toNat), (0x12#8, s.rxReady.toNat)] →
      ∃ w : Word, exec (.rd sel) s = .next { s with out := s.out ++ [.rsp w] } ∧ w.msb = false ∧
        (v < 2 ^ 31 → w = BitVec.ofNat 32 v) ∧ (v < 2 ^ 32 → w.toNat = v % 2 ^ 31)

/-- R163: `RD` of a selector from 0x13 on is answered 0x80000000 and changes nothing. -/
def Obligations.ReadOfUndefinedSelector : Prop :=
  ∀ (s : State) (sel : Byte), s.hostOp = .none → 0x13 ≤ sel.toNat →
    exec (.rd sel) s = .next { s with out := s.out ++ [.rsp 0x80000000#32] }

/-- R67: two `RD` of one selector with no step between them return the same value. -/
def Obligations.ReadIsRepeatable : Prop :=
  ∀ (s t : State) (sel : Byte), exec (.rd sel) s = .next t →
    ∃ w, t = { s with out := s.out ++ [.rsp w] } ∧ exec (.rd sel) t = .next { t with out := t.out ++ [.rsp w] }

/-! ## Reset and invariants -/

/-- R52: the whole reset table, in every configuration, the trace empty. -/
def Obligations.ResetTable : Prop :=
  ∀ c : Config,
    let s := State.resetWith c
    s.debounced = false ∧ s.rawSample = false ∧ s.prevRaw = false ∧ s.reliable = false ∧ s.tickCnt = 0 ∧
    s.modeCnt = 0 ∧ s.ratioCnt = 0 ∧ s.serCnt = 0 ∧ s.serTrig = false ∧ s.outMode = false ∧ s.outRatio = false ∧
    s.sample = 0 ∧ s.convPending = false ∧ s.adcEn = (if c.featAdcGate then false else true) ∧
    s.serEn = c.serEnReset ∧ s.serTxe = true ∧ s.rxReady = false ∧ s.rxByte = 0x00#8 ∧ s.serQ = [] ∧ s.serN = 0#8 ∧
    s.twPhase = .idle ∧ s.twAddr = 0#7 ∧ s.twData = 0x00#8 ∧ s.twWait = 0 ∧ s.hostOp = .none ∧ s.out = []

/-- Every invariant below holds right after reset, in every configuration that is not refused; `RICH` and `BASIC` are
such configurations, and `State.reset` is the reset state of `RICH` (log entry 1). -/
def Obligations.ResetMeetsInvariants : Prop :=
  (∀ c : Config, configValid c = true → Inv (State.resetWith c)) ∧ configValid Config.rich = true ∧
    configValid Config.basic = true ∧ State.reset = State.resetWith Config.rich

/-- Every step keeps every field in its range (R24, R26, R40). -/
def Obligations.StepKeepsRanges : Prop := ∀ s t : State, RangeInv s → step s = .next t → RangeInv t

/-- R34: after reset and after every step an unreliable window leaves the flag false, and more: the flag is the
reliable sample. -/
def Obligations.UnreliableWindowForcesFlagFalse : Prop :=
  (∀ c : Config, let s := State.resetWith c
    (s.reliable = false → s.debounced = false) ∧ s.debounced = (s.reliable && s.rawSample)) ∧
  ∀ s t : State, s.debounced = (s.reliable && s.rawSample) → step s = .next t →
    (t.reliable = false → t.debounced = false) ∧ t.debounced = (t.reliable && t.rawSample)

/-- Every step keeps the DTE invariant: the flag, the previous sample (R23) and the mode line (R32, R128). With
`FEAT_MODE` off the mode line and the counter stay as they are, and are in step because they started so. -/
def Obligations.StepKeepsTimingInvariant : Prop := ∀ s t : State, DteInv s → step s = .next t → DteInv t

/-- Every step keeps what a feature that is off leaves at its reset value (R27, R29, R30), and the enable line follows
the outstanding conversion (R42). -/
def Obligations.StepKeepsFeatureInvariant : Prop := ∀ s t : State, FeatureInv s → step s = .next t → FeatureInv t

/-- Every step keeps the agreement of command port, bus phase and serial queue (R46, R48). -/
def Obligations.StepKeepsPortInvariant : Prop :=
  ∀ s t : State, RangeInv s → PortInv s → step s = .next t → PortInv t

/-- R69: the bus phases in the trace are strictly sequential, and an observer of the trace knows the master's phase;
the invariant is kept by every step, and holds at reset. -/
def Obligations.BusPhasesStrictlySequential : Prop :=
  (∀ c : Config, busTrace (State.resetWith c).out = some (State.resetWith c).twPhase) ∧
  ∀ s t : State, PortInv s → busTrace s.out = some s.twPhase → step s = .next t → busTrace t.out = some t.twPhase

/-- R89: every host word consumed is answered by exactly one response, at once or when the outstanding command ends; no
event adds or loses one. -/
def Obligations.EveryCommandAnsweredOnce : Prop :=
  ∀ (s t : State) (w : Word) (rest : List Word), PortInv s → step s = .next t → s.stimuli = w :: rest →
    commandsTaken t = commandsTaken s + (if w.msb then 0 else 1)

/-- R202: no interrupt-context step puts anything on the bus or the serial port. -/
def Obligations.InterruptsTouchNoPort : Prop :=
  ∀ (i : Instr) (s t : State), ((∃ raw, i = .tick raw) ∨ ∃ n, i = .convDone n) → exec i s = .next t →
    ∃ es : List OutEvent, t.out = s.out ++ es ∧ ∀ e ∈ es, touchesPort e = false

/-- The ownership table of R201, as the frame of every stimulus: each field changes only in the steps of the
contexts that own it (with R108's timeout writing `tw_phase` and `host_op` in the `TICK` step, which the table leaves
out). -/
def Obligations.FieldsChangeOnlyByTheirOwners : Prop :=
  ∀ (i : Instr) (s t : State), exec i s = .next t →
    t.cfg = s.cfg ∧ t.stimuli = s.stimuli ∧
    ((∀ raw, i ≠ .tick raw) →
      t.debounced = s.debounced ∧ t.rawSample = s.rawSample ∧ t.prevRaw = s.prevRaw ∧ t.reliable = s.reliable ∧
      t.tickCnt = s.tickCnt ∧ t.modeCnt = s.modeCnt ∧ t.ratioCnt = s.ratioCnt ∧ t.serCnt = s.serCnt ∧
      t.outMode = s.outMode ∧ t.outRatio = s.outRatio) ∧
    ((∀ raw, i ≠ .tick raw) → i ≠ .serLine → t.serTrig = s.serTrig) ∧
    ((∀ n, i ≠ .convDone n) → t.sample = s.sample) ∧
    ((∀ n, i ≠ .convDone n) → i ≠ .adcStart → t.convPending = s.convPending ∧ t.adcEn = s.adcEn) ∧
    (i ≠ .serRxpoll → t.serEn = s.serEn) ∧
    ((∀ d b, i ≠ .twWrite d b) → (∀ b, i ≠ .serTx b) → i ≠ .serLine → (∀ status, i ≠ .twReady status) → i ≠ .serTxe →
      (∀ raw, i ≠ .tick raw) → t.hostOp = s.hostOp) ∧
    ((∀ b, i ≠ .serTx b) → i ≠ .serLine → i ≠ .serTxe → t.serTxe = s.serTxe ∧ t.serQ = s.serQ ∧ t.serN = s.serN) ∧
    ((∀ b, i ≠ .serRx b) → t.rxByte = s.rxByte ∧ (i ≠ .serRxpoll → t.rxReady = s.rxReady)) ∧
    ((∀ d b, i ≠ .twWrite d b) → t.twAddr = s.twAddr ∧ t.twData = s.twData ∧
      ((∀ status, i ≠ .twReady status) → (∀ raw, i ≠ .tick raw) → t.twPhase = s.twPhase ∧ t.twWait = s.twWait))

/-! ## Ports and host software -/

/-- R94: between steps `cmd_ready` is high exactly when no command is outstanding, and the level ports show the
fields; the bus request strobe of an accepted `TW_WRITE` is 1 (START). An edge with `rst` leaves R52's state and shows
its levels, with no strobe, whatever is presented; an edge on which one stimulus is presented is its step, a command
that is not admitted not being consumed (log entry 15); an edge on which nothing is presented changes nothing. After
every edge the levels shown are those of the state it leaves. -/
def Obligations.PortsShowTheState : Prop :=
  ∀ (s : State) (p : PortsIn s.cfg) (order : EdgeOrder p) (i : Instr),
    ((portsOut s s).cmdReady = true ↔ s.hostOp = .none) ∧ (portsOut s s).outMode = s.outMode ∧
    (portsOut s s).outRatio = s.outRatio ∧ (portsOut s s).adcEn = s.adcEn ∧ (portsOut s s).twReq = 0#2 ∧
    (∀ dev byte, s.hostOp = .none → ∃ t, exec (.twWrite dev byte) s = .next t ∧ (portsOut s t).twReq = 1#2 ∧
      (portsOut s t).cmdReady = false) ∧
    (configValid s.cfg = true →
      (p.rst = true → clockEdge s p order = .next (State.resetWith s.cfg) ∧
        edgeOutputs s p order = [levels (State.resetWith s.cfg)]) ∧
      (p.rst = false →
        (p.presented = [] → clockEdge s p order = .next s) ∧
        (p.presented = [.command] → p.cmdWord.msb = false → decode s.cfg p.cmdWord = .instr i →
          clockEdge s p order = if s.hostOp = .none then exec i s else .next s) ∧
        (p.presented = [.tick] → clockEdge s p order = exec (.tick p.btnRaw) s) ∧
        (p.presented = [.twReady] → clockEdge s p order = exec (.twReady p.twStatus) s) ∧
        (p.presented = [.serTxe] → clockEdge s p order = exec .serTxe s) ∧
        (p.presented = [.serRx] → clockEdge s p order = exec (.serRx p.serRxd) s) ∧
        (p.presented = [.adcDone] → s.cfg.adcBits ≤ 16 →
          clockEdge s p order = exec (.convDone (p.adcData.setWidth 16)) s)) ∧
      ∀ t, clockEdge s p order = .next t → ∃ shown, (edgeOutputs s p order).getLast? = some shown ∧
        shown.cmdReady = decide (t.hostOp = .none) ∧ shown.outMode = t.outMode ∧ shown.outRatio = t.outRatio)

/-- R174 with R179: `write_char` is four bus writes, high nibble first, enable set and then cleared, when no write fails
or the host discards errors; a host that propagates them stops at the first and returns it. -/
def Obligations.WriteCharIsFourBusWrites : Prop :=
  ∀ (p : LcdParams) (byte : Byte) (rs : Bool) (answers : List Word), 4 ≤ answers.length →
    let did := (writeChar p byte rs).run answers
    let high := controlByte p (byte.extractLsb' 4 4) rs
    let low := controlByte p (byte.extractLsb' 0 4) rs
    let enable := 1#8 <<< p.enBit
    let writes := [high ||| enable, high, low ||| enable, low]
    ((p.propagatesErrors = false ∨ ∀ r ∈ answers.take 4, r = 0#32) →
      busWrites did.1 = writes ∧ did.2 = some 0#32) ∧
    (p.propagatesErrors = true → ∀ k code, k < 4 → (∀ r ∈ answers.take k, r = 0#32) → answers[k]? = some code →
      code ≠ 0#32 → busWrites did.1 = writes.take (k + 1) ∧ did.2 = some code)

/-- R176: when no write fails or the host discards errors, `write_string` is four bus writes a character and four a line
wrap, one wrap before every `LCD_COLS`th character but the first. -/
def Obligations.WriteStringBusWrites : Prop :=
  ∀ (p : LcdParams) (text : List Byte) (answers : List Word), 0 < p.cols →
    4 * (text.length + (text.length - 1) / p.cols) ≤ answers.length →
    (p.propagatesErrors = false ∨ ∀ r ∈ answers, r = 0#32) →
    let did := (writeString p text).run answers
    (busWrites did.1).length = 4 * (text.length + (text.length - 1) / p.cols) ∧ did.2 = some 0#32
end

