-- ==== Sys2Proof/Laws/Decode.lean ====
section
/-! SUPPORT. The four byte fields of a word and the word laid out from them are inverse to each other, so that
neither the decoder's nor the encoder's bits need unfolding again. -/

namespace Sys2Proof

theorem getLsbD_layout (op c a b : Byte) (i : Nat) :
    (layout op c a b).getLsbD i =
      if i < 8 then b.getLsbD i
      else if i < 16 then a.getLsbD (i - 8)
      else if i < 24 then c.getLsbD (i - 16)
      else op.getLsbD (i - 24) := by
  have small : ∀ (x : Byte) (j : Nat), 8 ≤ j → x.getLsbD j = false := fun x j h => BitVec.getLsbD_of_ge x j h
  simp only [layout, BitVec.getLsbD_or, BitVec.getLsbD_shiftLeft, BitVec.getLsbD_setWidth]
  split
  · simp [show i < 32 by omega, show i < 24 by omega, show i < 16 by omega, *]
  split
  · simp [show i < 32 by omega, show i < 24 by omega, show i - 8 < 32 by omega, small b i (by omega), *]
  split
  · simp [show i < 32 by omega, show i - 16 < 32 by omega, small b i (by omega), small a (i - 8) (by omega), *]
  · simp only [small b i (by omega), small a (i - 8) (by omega), small c (i - 16) (by omega)]
    by_cases h : i < 32
    · simp [show i - 24 < 32 by omega, *]
    · simp [h, small op (i - 24) (by omega)]

@[simp] theorem opField_layout (op c a b : Byte) : opField (layout op c a b) = op := by
  ext i hi
  simp [opField, getLsbD_layout, show ¬ 24 + i < 8 by omega, show ¬ 24 + i < 16 by omega, hi]

@[simp] theorem cField_layout (op c a b : Byte) : cField (layout op c a b) = c := by
  ext i hi
  simp [cField, getLsbD_layout, show ¬ 16 + i < 8 by omega, show 16 + i < 24 by omega, hi]

@[simp] theorem aField_layout (op c a b : Byte) : aField (layout op c a b) = a := by
  ext i hi
  simp [aField, getLsbD_layout, show 8 + i < 16 by omega, hi]

@[simp] theorem bField_layout (op c a b : Byte) : bField (layout op c a b) = b := by
  ext i hi
  simp [bField, getLsbD_layout, hi]

@[simp] theorem msb_layout (op c a b : Byte) : (layout op c a b).msb = op.msb := by
  rw [BitVec.msb_eq_getLsbD_last, BitVec.msb_eq_getLsbD_last, getLsbD_layout]
  simp

@[simp] theorem layout_fields (w : Word) : layout (opField w) (cField w) (aField w) (bField w) = w := by
  apply BitVec.eq_of_getLsbD_eq
  intro i hi
  simp only [getLsbD_layout, opField, cField, aField, bField, BitVec.getLsbD_extractLsb']
  split
  · simp [*]
  split
  · simp [show 8 + (i - 8) = i by omega, show i - 8 < 8 by omega]
  split
  · simp [show 16 + (i - 16) = i by omega, show i - 16 < 8 by omega]
  · simp [show 24 + (i - 24) = i by omega, show i - 24 < 8 by omega]

theorem msb_opField (w : Word) : (opField w).msb = w.msb := by
  rw [← msb_layout (opField w) (cField w) (aField w) (bField w), layout_fields]

/-- Two words with the same four fields are the same word. -/
theorem word_ext {v w : Word} (ho : opField v = opField w) (hc : cField v = cField w) (ha : aField v = aField w)
    (hb : bField v = bField w) : v = w := by
  rw [← layout_fields v, ← layout_fields w, ho, hc, ha, hb]

/-- The 16-bit payload of a word laid out from the payload's two bytes. -/
@[simp] theorem payload_layout (op c : Byte) (n : BitVec 16) :
    payload (layout op c (n.extractLsb' 8 8) (n.extractLsb' 0 8)) = n := by
  apply BitVec.eq_of_getLsbD_eq
  intro i hi
  simp only [payload, BitVec.getLsbD_extractLsb', getLsbD_layout]
  split
  · simp [hi, show i < 8 by omega]
  · simp [show i < 16 by omega, show 8 + (i - 8) = i by omega, show i - 8 < 8 by omega]

theorem payload_high (w : Word) : (payload w).extractLsb' 8 8 = aField w := by
  ext i hi
  simp [payload, aField]

theorem payload_low (w : Word) : (payload w).extractLsb' 0 8 = bField w := by
  ext i hi
  simp [payload, bField]

end Sys2Proof
end

