-- ==== Sys2Proof/Laws/State.lean ====
section
/-! SUPPORT. One lemma per field per named update of the state: what `emit`, `respond`, `raise` and the placing of a
word write, and that they write nothing else. -/

namespace Sys2Proof.Machine

@[simp] theorem State.emit_cfg (s : State) (e : OutEvent) : (s.emit e).cfg = s.cfg := rfl
@[simp] theorem State.emit_stimuli (s : State) (e : OutEvent) : (s.emit e).stimuli = s.stimuli := rfl
@[simp] theorem State.emit_out (s : State) (e : OutEvent) : (s.emit e).out = s.out ++ [e] := rfl
@[simp] theorem State.emit_debounced (s : State) (e : OutEvent) : (s.emit e).debounced = s.debounced := rfl
@[simp] theorem State.emit_rawSample (s : State) (e : OutEvent) : (s.emit e).rawSample = s.rawSample := rfl
@[simp] theorem State.emit_prevRaw (s : State) (e : OutEvent) : (s.emit e).prevRaw = s.prevRaw := rfl
@[simp] theorem State.emit_reliable (s : State) (e : OutEvent) : (s.emit e).reliable = s.reliable := rfl
@[simp] theorem State.emit_tickCnt (s : State) (e : OutEvent) : (s.emit e).tickCnt = s.tickCnt := rfl
@[simp] theorem State.emit_modeCnt (s : State) (e : OutEvent) : (s.emit e).modeCnt = s.modeCnt := rfl
@[simp] theorem State.emit_ratioCnt (s : State) (e : OutEvent) : (s.emit e).ratioCnt = s.ratioCnt := rfl
@[simp] theorem State.emit_serCnt (s : State) (e : OutEvent) : (s.emit e).serCnt = s.serCnt := rfl
@[simp] theorem State.emit_serTrig (s : State) (e : OutEvent) : (s.emit e).serTrig = s.serTrig := rfl
@[simp] theorem State.emit_outMode (s : State) (e : OutEvent) : (s.emit e).outMode = s.outMode := rfl
@[simp] theorem State.emit_outRatio (s : State) (e : OutEvent) : (s.emit e).outRatio = s.outRatio := rfl
@[simp] theorem State.emit_sample (s : State) (e : OutEvent) : (s.emit e).sample = s.sample := rfl
@[simp] theorem State.emit_convPending (s : State) (e : OutEvent) : (s.emit e).convPending = s.convPending := rfl
@[simp] theorem State.emit_adcEn (s : State) (e : OutEvent) : (s.emit e).adcEn = s.adcEn := rfl
@[simp] theorem State.emit_serEn (s : State) (e : OutEvent) : (s.emit e).serEn = s.serEn := rfl
@[simp] theorem State.emit_serTxe (s : State) (e : OutEvent) : (s.emit e).serTxe = s.serTxe := rfl
@[simp] theorem State.emit_rxReady (s : State) (e : OutEvent) : (s.emit e).rxReady = s.rxReady := rfl
@[simp] theorem State.emit_rxByte (s : State) (e : OutEvent) : (s.emit e).rxByte = s.rxByte := rfl
@[simp] theorem State.emit_serQ (s : State) (e : OutEvent) : (s.emit e).serQ = s.serQ := rfl
@[simp] theorem State.emit_serN (s : State) (e : OutEvent) : (s.emit e).serN = s.serN := rfl
@[simp] theorem State.emit_twPhase (s : State) (e : OutEvent) : (s.emit e).twPhase = s.twPhase := rfl
@[simp] theorem State.emit_twAddr (s : State) (e : OutEvent) : (s.emit e).twAddr = s.twAddr := rfl
@[simp] theorem State.emit_twData (s : State) (e : OutEvent) : (s.emit e).twData = s.twData := rfl
@[simp] theorem State.emit_twWait (s : State) (e : OutEvent) : (s.emit e).twWait = s.twWait := rfl
@[simp] theorem State.emit_hostOp (s : State) (e : OutEvent) : (s.emit e).hostOp = s.hostOp := rfl

@[simp] theorem State.respond_cfg (s : State) (w : Word) : (s.respond w).cfg = s.cfg := rfl
@[simp] theorem State.respond_stimuli (s : State) (w : Word) : (s.respond w).stimuli = s.stimuli := rfl
@[simp] theorem State.respond_out (s : State) (w : Word) : (s.respond w).out = s.out ++ [.rsp w] := rfl
@[simp] theorem State.respond_debounced (s : State) (w : Word) : (s.respond w).debounced = s.debounced := rfl
@[simp] theorem State.respond_rawSample (s : State) (w : Word) : (s.respond w).rawSample = s.rawSample := rfl
@[simp] theorem State.respond_prevRaw (s : State) (w : Word) : (s.respond w).prevRaw = s.prevRaw := rfl
@[simp] theorem State.respond_reliable (s : State) (w : Word) : (s.respond w).reliable = s.reliable := rfl
@[simp] theorem State.respond_tickCnt (s : State) (w : Word) : (s.respond w).tickCnt = s.tickCnt := rfl
@[simp] theorem State.respond_modeCnt (s : State) (w : Word) : (s.respond w).modeCnt = s.modeCnt := rfl
@[simp] theorem State.respond_ratioCnt (s : State) (w : Word) : (s.respond w).ratioCnt = s.ratioCnt := rfl
@[simp] theorem State.respond_serCnt (s : State) (w : Word) : (s.respond w).serCnt = s.serCnt := rfl
@[simp] theorem State.respond_serTrig (s : State) (w : Word) : (s.respond w).serTrig = s.serTrig := rfl
@[simp] theorem State.respond_outMode (s : State) (w : Word) : (s.respond w).outMode = s.outMode := rfl
@[simp] theorem State.respond_outRatio (s : State) (w : Word) : (s.respond w).outRatio = s.outRatio := rfl
@[simp] theorem State.respond_sample (s : State) (w : Word) : (s.respond w).sample = s.sample := rfl
@[simp] theorem State.respond_convPending (s : State) (w : Word) : (s.respond w).convPending = s.convPending := rfl
@[simp] theorem State.respond_adcEn (s : State) (w : Word) : (s.respond w).adcEn = s.adcEn := rfl
@[simp] theorem State.respond_serEn (s : State) (w : Word) : (s.respond w).serEn = s.serEn := rfl
@[simp] theorem State.respond_serTxe (s : State) (w : Word) : (s.respond w).serTxe = s.serTxe := rfl
@[simp] theorem State.respond_rxReady (s : State) (w : Word) : (s.respond w).rxReady = s.rxReady := rfl
@[simp] theorem State.respond_rxByte (s : State) (w : Word) : (s.respond w).rxByte = s.rxByte := rfl
@[simp] theorem State.respond_serQ (s : State) (w : Word) : (s.respond w).serQ = s.serQ := rfl
@[simp] theorem State.respond_serN (s : State) (w : Word) : (s.respond w).serN = s.serN := rfl
@[simp] theorem State.respond_twPhase (s : State) (w : Word) : (s.respond w).twPhase = s.twPhase := rfl
@[simp] theorem State.respond_twAddr (s : State) (w : Word) : (s.respond w).twAddr = s.twAddr := rfl
@[simp] theorem State.respond_twData (s : State) (w : Word) : (s.respond w).twData = s.twData := rfl
@[simp] theorem State.respond_twWait (s : State) (w : Word) : (s.respond w).twWait = s.twWait := rfl
@[simp] theorem State.respond_hostOp (s : State) (w : Word) : (s.respond w).hostOp = .none := rfl

@[simp] theorem State.raiseBusError_cfg (s : State) (e : BusError) : (s.raiseBusError e).cfg = s.cfg := rfl
@[simp] theorem State.raiseBusError_stimuli (s : State) (e : BusError) : (s.raiseBusError e).stimuli = s.stimuli := rfl
@[simp] theorem State.raiseBusError_out (s : State) (e : BusError) : (s.raiseBusError e).out = s.out ++ [.rsp (busErrorCode e)] := rfl
@[simp] theorem State.raiseBusError_debounced (s : State) (e : BusError) : (s.raiseBusError e).debounced = s.debounced := rfl
@[simp] theorem State.raiseBusError_rawSample (s : State) (e : BusError) : (s.raiseBusError e).rawSample = s.rawSample := rfl
@[simp] theorem State.raiseBusError_prevRaw (s : State) (e : BusError) : (s.raiseBusError e).prevRaw = s.prevRaw := rfl
@[simp] theorem State.raiseBusError_reliable (s : State) (e : BusError) : (s.raiseBusError e).reliable = s.reliable := rfl
@[simp] theorem State.raiseBusError_tickCnt (s : State) (e : BusError) : (s.raiseBusError e).tickCnt = s.tickCnt := rfl
@[simp] theorem State.raiseBusError_modeCnt (s : State) (e : BusError) : (s.raiseBusError e).modeCnt = s.modeCnt := rfl
@[simp] theorem State.raiseBusError_ratioCnt (s : State) (e : BusError) : (s.raiseBusError e).ratioCnt = s.ratioCnt := rfl
@[simp] theorem State.raiseBusError_serCnt (s : State) (e : BusError) : (s.raiseBusError e).serCnt = s.serCnt := rfl
@[simp] theorem State.raiseBusError_serTrig (s : State) (e : BusError) : (s.raiseBusError e).serTrig = s.serTrig := rfl
@[simp] theorem State.raiseBusError_outMode (s : State) (e : BusError) : (s.raiseBusError e).outMode = s.outMode := rfl
@[simp] theorem State.raiseBusError_outRatio (s : State) (e : BusError) : (s.raiseBusError e).outRatio = s.outRatio := rfl
@[simp] theorem State.raiseBusError_sample (s : State) (e : BusError) : (s.raiseBusError e).sample = s.sample := rfl
@[simp] theorem State.raiseBusError_convPending (s : State) (e : BusError) : (s.raiseBusError e).convPending = s.convPending := rfl
@[simp] theorem State.raiseBusError_adcEn (s : State) (e : BusError) : (s.raiseBusError e).adcEn = s.adcEn := rfl
@[simp] theorem State.raiseBusError_serEn (s : State) (e : BusError) : (s.raiseBusError e).serEn = s.serEn := rfl
@[simp] theorem State.raiseBusError_serTxe (s : State) (e : BusError) : (s.raiseBusError e).serTxe = s.serTxe := rfl
@[simp] theorem State.raiseBusError_rxReady (s : State) (e : BusError) : (s.raiseBusError e).rxReady = s.rxReady := rfl
@[simp] theorem State.raiseBusError_rxByte (s : State) (e : BusError) : (s.raiseBusError e).rxByte = s.rxByte := rfl
@[simp] theorem State.raiseBusError_serQ (s : State) (e : BusError) : (s.raiseBusError e).serQ = s.serQ := rfl
@[simp] theorem State.raiseBusError_serN (s : State) (e : BusError) : (s.raiseBusError e).serN = s.serN := rfl
@[simp] theorem State.raiseBusError_twPhase (s : State) (e : BusError) : (s.raiseBusError e).twPhase = .idle := rfl
@[simp] theorem State.raiseBusError_twAddr (s : State) (e : BusError) : (s.raiseBusError e).twAddr = s.twAddr := rfl
@[simp] theorem State.raiseBusError_twData (s : State) (e : BusError) : (s.raiseBusError e).twData = s.twData := rfl
@[simp] theorem State.raiseBusError_twWait (s : State) (e : BusError) : (s.raiseBusError e).twWait = s.twWait := rfl
@[simp] theorem State.raiseBusError_hostOp (s : State) (e : BusError) : (s.raiseBusError e).hostOp = .none := rfl

@[simp] theorem State.present_cfg (s : State) (w : Word) : (s.present w).cfg = s.cfg := rfl
@[simp] theorem State.present_stimuli (s : State) (w : Word) : (s.present w).stimuli = w :: s.stimuli := rfl
@[simp] theorem State.present_out (s : State) (w : Word) : (s.present w).out = s.out := rfl
@[simp] theorem State.present_debounced (s : State) (w : Word) : (s.present w).debounced = s.debounced := rfl
@[simp] theorem State.present_rawSample (s : State) (w : Word) : (s.present w).rawSample = s.rawSample := rfl
@[simp] theorem State.present_prevRaw (s : State) (w : Word) : (s.present w).prevRaw = s.prevRaw := rfl
@[simp] theorem State.present_reliable (s : State) (w : Word) : (s.present w).reliable = s.reliable := rfl
@[simp] theorem State.present_tickCnt (s : State) (w : Word) : (s.present w).tickCnt = s.tickCnt := rfl
@[simp] theorem State.present_modeCnt (s : State) (w : Word) : (s.present w).modeCnt = s.modeCnt := rfl
@[simp] theorem State.present_ratioCnt (s : State) (w : Word) : (s.present w).ratioCnt = s.ratioCnt := rfl
@[simp] theorem State.present_serCnt (s : State) (w : Word) : (s.present w).serCnt = s.serCnt := rfl
@[simp] theorem State.present_serTrig (s : State) (w : Word) : (s.present w).serTrig = s.serTrig := rfl
@[simp] theorem State.present_outMode (s : State) (w : Word) : (s.present w).outMode = s.outMode := rfl
@[simp] theorem State.present_outRatio (s : State) (w : Word) : (s.present w).outRatio = s.outRatio := rfl
@[simp] theorem State.present_sample (s : State) (w : Word) : (s.present w).sample = s.sample := rfl
@[simp] theorem State.present_convPending (s : State) (w : Word) : (s.present w).convPending = s.convPending := rfl
@[simp] theorem State.present_adcEn (s : State) (w : Word) : (s.present w).adcEn = s.adcEn := rfl
@[simp] theorem State.present_serEn (s : State) (w : Word) : (s.present w).serEn = s.serEn := rfl
@[simp] theorem State.present_serTxe (s : State) (w : Word) : (s.present w).serTxe = s.serTxe := rfl
@[simp] theorem State.present_rxReady (s : State) (w : Word) : (s.present w).rxReady = s.rxReady := rfl
@[simp] theorem State.present_rxByte (s : State) (w : Word) : (s.present w).rxByte = s.rxByte := rfl
@[simp] theorem State.present_serQ (s : State) (w : Word) : (s.present w).serQ = s.serQ := rfl
@[simp] theorem State.present_serN (s : State) (w : Word) : (s.present w).serN = s.serN := rfl
@[simp] theorem State.present_twPhase (s : State) (w : Word) : (s.present w).twPhase = s.twPhase := rfl
@[simp] theorem State.present_twAddr (s : State) (w : Word) : (s.present w).twAddr = s.twAddr := rfl
@[simp] theorem State.present_twData (s : State) (w : Word) : (s.present w).twData = s.twData := rfl
@[simp] theorem State.present_twWait (s : State) (w : Word) : (s.present w).twWait = s.twWait := rfl
@[simp] theorem State.present_hostOp (s : State) (w : Word) : (s.present w).hostOp = s.hostOp := rfl

end Sys2Proof.Machine
end

