-- ==== Sys2Proof/Laws/Ops.lean ====
section
/-! SUPPORT. What each shared operation can do, once: admission, the pump, the bus's ready and timeout, the sampler's
enable line, the parts of a tick. -/

namespace Sys2Proof.Machine

/-! ## Admission -/

theorem whenReady_of_idle {s t : State} (h : s.hostOp = .none) : whenReady s t = .next t := if_pos h

theorem whenReady_of_busy {s t : State} (h : s.hostOp ≠ .none) : whenReady s t = .refused .hostBusy := if_neg h

/-- An admitted command found the port ready and left exactly the state it says. -/
theorem whenReady_next {s t u : State} (h : whenReady s t = .next u) : s.hostOp = .none ∧ u = t := by
  unfold whenReady at h
  split at h
  · exact ⟨‹_›, by cases h; rfl⟩
  · cases h

/-! ## Counters -/

theorem inc_lt (c : Config) (v : Nat) : inc c v < 2 ^ c.cntW := Nat.mod_lt _ (Nat.two_pow_pos _)

theorem inc_of_lt {c : Config} {v : Nat} (h : v + 1 < 2 ^ c.cntW) : inc c v = v + 1 := Nat.mod_eq_of_lt h

/-! ## The pump -/

/-- With nothing to send, or a port that is not empty, the pump does nothing (R147). -/
theorem pump_of_idle {s : State} (h : ¬ ((s.hostOp = .tx ∨ s.hostOp = .line) ∧ s.serTxe = true)) : pump s = s :=
  if_neg h

theorem pump_of_empty {s : State} (h : s.serQ = []) : pump s = s := by
  unfold pump
  split
  · simp [h]
  · rfl

/-- The last byte goes out and answers the command (R147). -/
theorem pump_last {s : State} {b : Byte} (h : s.hostOp = .tx ∨ s.hostOp = .line) (he : s.serTxe = true)
    (hq : s.serQ = [b]) :
    pump s = (State.emit { s with serQ := [], serTxe := false } (.serByte b)).respond (s.serN.setWidth 32) := by
  unfold pump
  rw [if_pos ⟨h, he⟩]
  simp [hq]

/-- A byte that is not the last goes out (R147). -/
theorem pump_more {s : State} {b : Byte} {q : List Byte} (h : s.hostOp = .tx ∨ s.hostOp = .line)
    (he : s.serTxe = true) (hq : s.serQ = b :: q) (hne : q ≠ []) :
    pump s = State.emit { s with serQ := q, serTxe := false } (.serByte b) := by
  obtain ⟨b', q', rfl⟩ := List.exists_cons_of_ne_nil hne
  unfold pump
  rw [if_pos ⟨h, he⟩]
  simp [hq]

/-- Everything the pump can do. -/
theorem pump_cases (s : State) :
    pump s = s ∨
    ((s.hostOp = .tx ∨ s.hostOp = .line) ∧ s.serTxe = true ∧ ∃ b q, s.serQ = b :: q ∧
      ((q = [] ∧ pump s =
          (State.emit { s with serQ := [], serTxe := false } (.serByte b)).respond (s.serN.setWidth 32)) ∨
        (q ≠ [] ∧ pump s = State.emit { s with serQ := q, serTxe := false } (.serByte b)))) := by
  by_cases h : (s.hostOp = .tx ∨ s.hostOp = .line) ∧ s.serTxe = true
  · rcases hq : s.serQ with _ | ⟨b, q⟩
    · exact .inl (pump_of_empty hq)
    · refine .inr ⟨h.1, h.2, b, q, rfl, ?_⟩
      by_cases hn : q = []
      · exact .inl ⟨hn, pump_last h.1 h.2 (hn ▸ hq)⟩
      · exact .inr ⟨hn, pump_more h.1 h.2 hq hn⟩
  · exact .inl (pump_of_idle h)

/-! ## The bus -/

/-- Everything a ready can do (R103 to R106). -/
theorem ready_cases (status : Byte) (s : State) :
    (s.twPhase = .idle ∧ ready status s = s) ∨
    (s.twPhase = .wStart ∧ status = s.cfg.stStart ∧ ready status s =
      { s.emit (.twSend (addressByte s.twAddr s.cfg.twWriteBit)) with twWait := 0, twPhase := .wAddr }) ∨
    (s.twPhase = .wAddr ∧ status = s.cfg.stAddrAck ∧ ready status s =
      { s.emit (.twSend s.twData) with twWait := 0, twPhase := .wData }) ∨
    (s.twPhase = .wData ∧ status = s.cfg.stDataAck ∧ ready status s =
      { s.emit .twStop with twPhase := .idle }.respond 0#32) ∨
    (s.twPhase ≠ .idle ∧ ∃ e : BusError, e ≠ .timeout ∧ ready status s = s.raiseBusError e) := by
  unfold ready
  split
  · exact .inl ⟨‹_›, rfl⟩
  · unfold readyStart
    split
    · exact .inr (.inl ⟨‹_›, ‹_›, rfl⟩)
    · exact .inr (.inr (.inr (.inr ⟨by simp [*], .startFailed, by decide, rfl⟩)))
  · unfold readyAddr
    split
    · exact .inr (.inr (.inl ⟨‹_›, ‹_›, rfl⟩))
    · exact .inr (.inr (.inr (.inr ⟨by simp [*], .addressNack, by decide, rfl⟩)))
  · unfold readyData
    split
    · exact .inr (.inr (.inr (.inl ⟨‹_›, ‹_›, rfl⟩)))
    · exact .inr (.inr (.inr (.inr ⟨by simp [*], .dataNack, by decide, rfl⟩)))

/-- Everything the timeout can do (R108). -/
theorem busTimeout_cases (s : State) :
    ((s.cfg.twTimeout = none ∨ s.twPhase = .idle) ∧ busTimeout s = s) ∨
    (s.twPhase ≠ .idle ∧ ∃ n, s.cfg.twTimeout = some n ∧
      ((n ≤ inc s.cfg s.twWait ∧
          busTimeout s = { s with twWait := inc s.cfg s.twWait }.raiseBusError .timeout) ∨
        (inc s.cfg s.twWait < n ∧ busTimeout s = { s with twWait := inc s.cfg s.twWait }))) := by
  unfold busTimeout
  split
  · exact .inl ⟨.inl ‹_›, rfl⟩
  · split
    · exact .inl ⟨.inr ‹_›, rfl⟩
    · refine .inr ⟨‹_›, _, ‹_›, ?_⟩
      split
      · exact .inl ⟨‹_›, rfl⟩
      · exact .inr ⟨by omega, rfl⟩

/-! ## The sampler's enable line -/

theorem driveAdcEnable_gated {v : Bool} {s : State} (h : s.cfg.featAdcGate = true) :
    driveAdcEnable v s = State.emit { s with adcEn := v } (.adcEn v) := if_pos h

theorem driveAdcEnable_ungated {v : Bool} {s : State} (h : s.cfg.featAdcGate = false) : driveAdcEnable v s = s := by
  simp [driveAdcEnable, h]

/-! ## The parts of a tick -/

/-- The DTE parts of a tick, and the counting before them, write the DTE group and nothing else (R132, R201). -/
structure OutsideDteSame (s t : State) : Prop where
  cfg : t.cfg = s.cfg
  stimuli : t.stimuli = s.stimuli
  out : t.out = s.out
  sample : t.sample = s.sample
  convPending : t.convPending = s.convPending
  adcEn : t.adcEn = s.adcEn
  serEn : t.serEn = s.serEn
  serTxe : t.serTxe = s.serTxe
  rxReady : t.rxReady = s.rxReady
  rxByte : t.rxByte = s.rxByte
  serQ : t.serQ = s.serQ
  serN : t.serN = s.serN
  twPhase : t.twPhase = s.twPhase
  twAddr : t.twAddr = s.twAddr
  twData : t.twData = s.twData
  twWait : t.twWait = s.twWait
  hostOp : t.hostOp = s.hostOp

theorem OutsideDteSame.refl (s : State) : OutsideDteSame s s := by constructor <;> rfl

theorem OutsideDteSame.trans {s t u : State} (h : OutsideDteSame s t) (k : OutsideDteSame t u) :
    OutsideDteSame s u :=
  ⟨k.1.trans h.1, k.2.trans h.2, k.3.trans h.3, k.4.trans h.4, k.5.trans h.5, k.6.trans h.6, k.7.trans h.7,
    k.8.trans h.8, k.9.trans h.9, k.10.trans h.10, k.11.trans h.11, k.12.trans h.12, k.13.trans h.13,
    k.14.trans h.14, k.15.trans h.15, k.16.trans h.16, k.17.trans h.17⟩

theorem countUp_frame (s : State) : OutsideDteSame s (countUp s) := by constructor <;> rfl

theorem sampleWindow_frame (boundary raw : Bool) (s : State) : OutsideDteSame s (sampleWindow boundary raw s) := by
  unfold sampleWindow
  split <;> constructor <;> rfl

theorem settleFlag_frame (s : State) : OutsideDteSame s (settleFlag s) := by constructor <;> rfl

theorem countMode_frame (boundary : Bool) (s : State) : OutsideDteSame s (countMode boundary s) := by
  unfold countMode
  split <;> constructor <;> rfl

theorem driveModeLine_frame (s : State) : OutsideDteSame s (driveModeLine s) := by
  unfold driveModeLine
  split <;> constructor <;> rfl

theorem driveRatioLine_frame (s : State) : OutsideDteSame s (driveRatioLine s) := by
  unfold driveRatioLine
  split <;> constructor <;> rfl

theorem driveTrigger_frame (s : State) : OutsideDteSame s (driveTrigger s) := by
  unfold driveTrigger
  split <;> constructor <;> rfl

theorem tickParts_frame (boundary raw : Bool) (s : State) : OutsideDteSame s (tickParts boundary raw s) :=
  (sampleWindow_frame boundary raw s).trans <| (settleFlag_frame _).trans <| (countMode_frame _ _).trans <|
    (driveModeLine_frame _).trans <| (driveRatioLine_frame _).trans (driveTrigger_frame _)

theorem dteStep_frame (raw : Bool) (s : State) : OutsideDteSame s (dteStep raw s) :=
  (countUp_frame s).trans (tickParts_frame _ _ _)

end Sys2Proof.Machine
end

