-- ==== Sys2Proof/Laws/Dte.lean ====
section
/-! SUPPORT. One lemma per field of the DTE group, and for the parameters and the sample, per part of a tick (R122 to
R131): what the part writes there, under which condition. With them a tick's field is computed by `simp`. -/

namespace Sys2Proof.Machine

@[simp] theorem countUp_cfg (s : State) : (countUp s).cfg = s.cfg := rfl
@[simp] theorem countUp_sample (s : State) : (countUp s).sample = s.sample := rfl
@[simp] theorem countUp_debounced (s : State) : (countUp s).debounced = s.debounced := rfl
@[simp] theorem countUp_rawSample (s : State) : (countUp s).rawSample = s.rawSample := rfl
@[simp] theorem countUp_prevRaw (s : State) : (countUp s).prevRaw = s.prevRaw := rfl
@[simp] theorem countUp_reliable (s : State) : (countUp s).reliable = s.reliable := rfl
@[simp] theorem countUp_tickCnt (s : State) : (countUp s).tickCnt = inc s.cfg s.tickCnt := rfl
@[simp] theorem countUp_modeCnt (s : State) : (countUp s).modeCnt = s.modeCnt := rfl
@[simp] theorem countUp_ratioCnt (s : State) :
    (countUp s).ratioCnt = if s.cfg.featRatio then inc s.cfg s.ratioCnt else s.ratioCnt := rfl
@[simp] theorem countUp_serCnt (s : State) :
    (countUp s).serCnt = if s.cfg.featHeartbeat then inc s.cfg s.serCnt else s.serCnt := rfl
@[simp] theorem countUp_serTrig (s : State) : (countUp s).serTrig = s.serTrig := rfl
@[simp] theorem countUp_outMode (s : State) : (countUp s).outMode = s.outMode := rfl
@[simp] theorem countUp_outRatio (s : State) : (countUp s).outRatio = s.outRatio := rfl

@[simp] theorem sampleWindow_cfg (boundary raw : Bool) (s : State) : (sampleWindow boundary raw s).cfg = s.cfg := by
  unfold sampleWindow; split <;> rfl
@[simp] theorem sampleWindow_sample (boundary raw : Bool) (s : State) :
    (sampleWindow boundary raw s).sample = s.sample := by
  unfold sampleWindow; split <;> rfl
@[simp] theorem sampleWindow_debounced (boundary raw : Bool) (s : State) :
    (sampleWindow boundary raw s).debounced = s.debounced := by
  unfold sampleWindow; split <;> rfl
@[simp] theorem sampleWindow_rawSample (boundary raw : Bool) (s : State) :
    (sampleWindow boundary raw s).rawSample = if boundary then raw else s.rawSample := by
  unfold sampleWindow; split <;> rfl
@[simp] theorem sampleWindow_prevRaw (boundary raw : Bool) (s : State) :
    (sampleWindow boundary raw s).prevRaw = if boundary then raw else s.prevRaw := by
  unfold sampleWindow; split <;> rfl
@[simp] theorem sampleWindow_reliable (boundary raw : Bool) (s : State) :
    (sampleWindow boundary raw s).reliable = if boundary then agrees raw s.prevRaw else s.reliable := by
  unfold sampleWindow; split <;> rfl
@[simp] theorem sampleWindow_tickCnt (boundary raw : Bool) (s : State) :
    (sampleWindow boundary raw s).tickCnt = if boundary then 0 else s.tickCnt := by
  unfold sampleWindow; split <;> rfl
@[simp] theorem sampleWindow_modeCnt (boundary raw : Bool) (s : State) :
    (sampleWindow boundary raw s).modeCnt = s.modeCnt := by
  unfold sampleWindow; split <;> rfl
@[simp] theorem sampleWindow_ratioCnt (boundary raw : Bool) (s : State) :
    (sampleWindow boundary raw s).ratioCnt = s.ratioCnt := by
  unfold sampleWindow; split <;> rfl
@[simp] theorem sampleWindow_serCnt (boundary raw : Bool) (s : State) :
    (sampleWindow boundary raw s).serCnt = s.serCnt := by
  unfold sampleWindow; split <;> rfl
@[simp] theorem sampleWindow_serTrig (boundary raw : Bool) (s : State) :
    (sampleWindow boundary raw s).serTrig = s.serTrig := by
  unfold sampleWindow; split <;> rfl
@[simp] theorem sampleWindow_outMode (boundary raw : Bool) (s : State) :
    (sampleWindow boundary raw s).outMode = s.outMode := by
  unfold sampleWindow; split <;> rfl
@[simp] theorem sampleWindow_outRatio (boundary raw : Bool) (s : State) :
    (sampleWindow boundary raw s).outRatio = s.outRatio := by
  unfold sampleWindow; split <;> rfl

@[simp] theorem settleFlag_cfg (s : State) : (settleFlag s).cfg = s.cfg := rfl
@[simp] theorem settleFlag_sample (s : State) : (settleFlag s).sample = s.sample := rfl
@[simp] theorem settleFlag_debounced (s : State) :
    (settleFlag s).debounced = debouncedFlag s.reliable s.rawSample := rfl
@[simp] theorem settleFlag_rawSample (s : State) : (settleFlag s).rawSample = s.rawSample := rfl
@[simp] theorem settleFlag_prevRaw (s : State) : (settleFlag s).prevRaw = s.prevRaw := rfl
@[simp] theorem settleFlag_reliable (s : State) : (settleFlag s).reliable = s.reliable := rfl
@[simp] theorem settleFlag_tickCnt (s : State) : (settleFlag s).tickCnt = s.tickCnt := rfl
@[simp] theorem settleFlag_modeCnt (s : State) : (settleFlag s).modeCnt = s.modeCnt := rfl
@[simp] theorem settleFlag_ratioCnt (s : State) : (settleFlag s).ratioCnt = s.ratioCnt := rfl
@[simp] theorem settleFlag_serCnt (s : State) : (settleFlag s).serCnt = s.serCnt := rfl
@[simp] theorem settleFlag_serTrig (s : State) : (settleFlag s).serTrig = s.serTrig := rfl
@[simp] theorem settleFlag_outMode (s : State) : (settleFlag s).outMode = s.outMode := rfl
@[simp] theorem settleFlag_outRatio (s : State) : (settleFlag s).outRatio = s.outRatio := rfl

@[simp] theorem countMode_cfg (boundary : Bool) (s : State) : (countMode boundary s).cfg = s.cfg := by
  unfold countMode; split <;> rfl
@[simp] theorem countMode_sample (boundary : Bool) (s : State) : (countMode boundary s).sample = s.sample := by
  unfold countMode; split <;> rfl
@[simp] theorem countMode_debounced (boundary : Bool) (s : State) :
    (countMode boundary s).debounced = s.debounced := by
  unfold countMode; split <;> rfl
@[simp] theorem countMode_rawSample (boundary : Bool) (s : State) :
    (countMode boundary s).rawSample = s.rawSample := by
  unfold countMode; split <;> rfl
@[simp] theorem countMode_prevRaw (boundary : Bool) (s : State) : (countMode boundary s).prevRaw = s.prevRaw := by
  unfold countMode; split <;> rfl
@[simp] theorem countMode_reliable (boundary : Bool) (s : State) : (countMode boundary s).reliable = s.reliable := by
  unfold countMode; split <;> rfl
@[simp] theorem countMode_tickCnt (boundary : Bool) (s : State) : (countMode boundary s).tickCnt = s.tickCnt := by
  unfold countMode; split <;> rfl
@[simp] theorem countMode_modeCnt (boundary : Bool) (s : State) :
    (countMode boundary s).modeCnt = if s.cfg.featMode && boundary && !s.debounced then inc s.cfg s.modeCnt else s.modeCnt := by
  unfold countMode; split <;> rfl
@[simp] theorem countMode_ratioCnt (boundary : Bool) (s : State) : (countMode boundary s).ratioCnt = s.ratioCnt := by
  unfold countMode; split <;> rfl
@[simp] theorem countMode_serCnt (boundary : Bool) (s : State) : (countMode boundary s).serCnt = s.serCnt := by
  unfold countMode; split <;> rfl
@[simp] theorem countMode_serTrig (boundary : Bool) (s : State) : (countMode boundary s).serTrig = s.serTrig := by
  unfold countMode; split <;> rfl
@[simp] theorem countMode_outMode (boundary : Bool) (s : State) : (countMode boundary s).outMode = s.outMode := by
  unfold countMode; split <;> rfl
@[simp] theorem countMode_outRatio (boundary : Bool) (s : State) : (countMode boundary s).outRatio = s.outRatio := by
  unfold countMode; split <;> rfl

@[simp] theorem driveModeLine_cfg (s : State) : (driveModeLine s).cfg = s.cfg := by
  unfold driveModeLine; split <;> rfl
@[simp] theorem driveModeLine_sample (s : State) : (driveModeLine s).sample = s.sample := by
  unfold driveModeLine; split <;> rfl
@[simp] theorem driveModeLine_debounced (s : State) : (driveModeLine s).debounced = s.debounced := by
  unfold driveModeLine; split <;> rfl
@[simp] theorem driveModeLine_rawSample (s : State) : (driveModeLine s).rawSample = s.rawSample := by
  unfold driveModeLine; split <;> rfl
@[simp] theorem driveModeLine_prevRaw (s : State) : (driveModeLine s).prevRaw = s.prevRaw := by
  unfold driveModeLine; split <;> rfl
@[simp] theorem driveModeLine_reliable (s : State) : (driveModeLine s).reliable = s.reliable := by
  unfold driveModeLine; split <;> rfl
@[simp] theorem driveModeLine_tickCnt (s : State) : (driveModeLine s).tickCnt = s.tickCnt := by
  unfold driveModeLine; split <;> rfl
@[simp] theorem driveModeLine_modeCnt (s : State) : (driveModeLine s).modeCnt = s.modeCnt := by
  unfold driveModeLine; split <;> rfl
@[simp] theorem driveModeLine_ratioCnt (s : State) : (driveModeLine s).ratioCnt = s.ratioCnt := by
  unfold driveModeLine; split <;> rfl
@[simp] theorem driveModeLine_serCnt (s : State) : (driveModeLine s).serCnt = s.serCnt := by
  unfold driveModeLine; split <;> rfl
@[simp] theorem driveModeLine_serTrig (s : State) : (driveModeLine s).serTrig = s.serTrig := by
  unfold driveModeLine; split <;> rfl
@[simp] theorem driveModeLine_outMode (s : State) :
    (driveModeLine s).outMode = if s.cfg.featMode then modeLevel (mode s) else s.outMode := by
  unfold driveModeLine; split <;> rfl
@[simp] theorem driveModeLine_outRatio (s : State) : (driveModeLine s).outRatio = s.outRatio := by
  unfold driveModeLine; split <;> rfl

@[simp] theorem driveRatioLine_cfg (s : State) : (driveRatioLine s).cfg = s.cfg := by
  unfold driveRatioLine; split <;> rfl
@[simp] theorem driveRatioLine_sample (s : State) : (driveRatioLine s).sample = s.sample := by
  unfold driveRatioLine; split <;> rfl
@[simp] theorem driveRatioLine_debounced (s : State) : (driveRatioLine s).debounced = s.debounced := by
  unfold driveRatioLine; split <;> rfl
@[simp] theorem driveRatioLine_rawSample (s : State) : (driveRatioLine s).rawSample = s.rawSample := by
  unfold driveRatioLine; split <;> rfl
@[simp] theorem driveRatioLine_prevRaw (s : State) : (driveRatioLine s).prevRaw = s.prevRaw := by
  unfold driveRatioLine; split <;> rfl
@[simp] theorem driveRatioLine_reliable (s : State) : (driveRatioLine s).reliable = s.reliable := by
  unfold driveRatioLine; split <;> rfl
@[simp] theorem driveRatioLine_tickCnt (s : State) : (driveRatioLine s).tickCnt = s.tickCnt := by
  unfold driveRatioLine; split <;> rfl
@[simp] theorem driveRatioLine_modeCnt (s : State) : (driveRatioLine s).modeCnt = s.modeCnt := by
  unfold driveRatioLine; split <;> rfl
@[simp] theorem driveRatioLine_ratioCnt (s : State) :
    (driveRatioLine s).ratioCnt = if s.cfg.featRatio && decide (mode s = .active) && exceeds s.ratioCnt (ratio s) then 0 else s.ratioCnt := by
  unfold driveRatioLine; split <;> rfl
@[simp] theorem driveRatioLine_serCnt (s : State) : (driveRatioLine s).serCnt = s.serCnt := by
  unfold driveRatioLine; split <;> rfl
@[simp] theorem driveRatioLine_serTrig (s : State) : (driveRatioLine s).serTrig = s.serTrig := by
  unfold driveRatioLine; split <;> rfl
@[simp] theorem driveRatioLine_outMode (s : State) : (driveRatioLine s).outMode = s.outMode := by
  unfold driveRatioLine; split <;> rfl
@[simp] theorem driveRatioLine_outRatio (s : State) :
    (driveRatioLine s).outRatio = if s.cfg.featRatio && decide (mode s = .active) && exceeds s.ratioCnt (ratio s) then !s.outRatio else s.outRatio := by
  unfold driveRatioLine; split <;> rfl

@[simp] theorem driveTrigger_cfg (s : State) : (driveTrigger s).cfg = s.cfg := by
  unfold driveTrigger; split <;> rfl
@[simp] theorem driveTrigger_sample (s : State) : (driveTrigger s).sample = s.sample := by
  unfold driveTrigger; split <;> rfl
@[simp] theorem driveTrigger_debounced (s : State) : (driveTrigger s).debounced = s.debounced := by
  unfold driveTrigger; split <;> rfl
@[simp] theorem driveTrigger_rawSample (s : State) : (driveTrigger s).rawSample = s.rawSample := by
  unfold driveTrigger; split <;> rfl
@[simp] theorem driveTrigger_prevRaw (s : State) : (driveTrigger s).prevRaw = s.prevRaw := by
  unfold driveTrigger; split <;> rfl
@[simp] theorem driveTrigger_reliable (s : State) : (driveTrigger s).reliable = s.reliable := by
  unfold driveTrigger; split <;> rfl
@[simp] theorem driveTrigger_tickCnt (s : State) : (driveTrigger s).tickCnt = s.tickCnt := by
  unfold driveTrigger; split <;> rfl
@[simp] theorem driveTrigger_modeCnt (s : State) : (driveTrigger s).modeCnt = s.modeCnt := by
  unfold driveTrigger; split <;> rfl
@[simp] theorem driveTrigger_ratioCnt (s : State) : (driveTrigger s).ratioCnt = s.ratioCnt := by
  unfold driveTrigger; split <;> rfl
@[simp] theorem driveTrigger_serCnt (s : State) :
    (driveTrigger s).serCnt = if s.cfg.featHeartbeat && decide (mode s = .idle) && exceeds s.serCnt s.cfg.serThresh then 0 else s.serCnt := by
  unfold driveTrigger; split <;> rfl
@[simp] theorem driveTrigger_serTrig (s : State) :
    (driveTrigger s).serTrig = if s.cfg.featHeartbeat && decide (mode s = .idle) && exceeds s.serCnt s.cfg.serThresh then true else s.serTrig := by
  unfold driveTrigger; split <;> rfl
@[simp] theorem driveTrigger_outMode (s : State) : (driveTrigger s).outMode = s.outMode := by
  unfold driveTrigger; split <;> rfl
@[simp] theorem driveTrigger_outRatio (s : State) : (driveTrigger s).outRatio = s.outRatio := by
  unfold driveTrigger; split <;> rfl

/-- The mode and the derived period depend on one field each (R127, R129), whatever part they are read after. -/
theorem mode_eq (s : State) : mode s = modeOf s.modeCnt := rfl

theorem ratio_eq (s : State) : ratio s = ratioOf s.cfg s.sample := rfl

theorem mode_congr {s t : State} (h : t.modeCnt = s.modeCnt) : mode t = mode s := by rw [mode_eq, mode_eq, h]

theorem modeOf_active {n : Nat} : modeOf n = .active ↔ n % 2 = 1 := by
  unfold modeOf
  split <;> simp <;> omega

theorem modeOf_idle {n : Nat} : modeOf n = .idle ↔ n % 2 = 0 := by
  unfold modeOf
  split <;> simp <;> omega

theorem modeLevel_modeOf (n : Nat) : modeLevel (modeOf n) = (n % 2 == 1) := by
  rcases Nat.mod_two_eq_zero_or_one n with h | h <;> simp [modeOf, modeLevel, h]

/-- Every field of the DTE group after DTE's part of a tick, in terms of the fields before it (R132); for all other
fields see `dteStep_frame`. -/
theorem dteStep_fields (raw : Bool) (s : State) :
    let u := dteStep raw s
    let tick := inc s.cfg s.tickCnt
    let boundary := exceeds tick s.cfg.debounceWindow
    let ratioCnt := if s.cfg.featRatio then inc s.cfg s.ratioCnt else s.ratioCnt
    let serCnt := if s.cfg.featHeartbeat then inc s.cfg s.serCnt else s.serCnt
    let toggle := s.cfg.featRatio && decide (mode u = .active) && exceeds ratioCnt (ratio s)
    let trigger := s.cfg.featHeartbeat && decide (mode u = .idle) && exceeds serCnt s.cfg.serThresh
    u.tickCnt = (if boundary then 0 else tick) ∧
    u.reliable = (if boundary then raw == s.prevRaw else s.reliable) ∧
    u.rawSample = (if boundary then raw else s.rawSample) ∧
    u.prevRaw = (if boundary then raw else s.prevRaw) ∧
    u.debounced = (u.reliable && u.rawSample) ∧
    u.modeCnt = (if s.cfg.featMode && boundary && !u.debounced then inc s.cfg s.modeCnt else s.modeCnt) ∧
    u.outMode = (if s.cfg.featMode then modeLevel (mode u) else s.outMode) ∧
    u.ratioCnt = (if toggle then 0 else ratioCnt) ∧ u.outRatio = (if toggle then !s.outRatio else s.outRatio) ∧
    u.serCnt = (if trigger then 0 else serCnt) ∧ u.serTrig = (if trigger then true else s.serTrig) := by
  simp [dteStep, tickParts, mode_eq, ratio_eq, agrees, debouncedFlag]

end Sys2Proof.Machine
end

