-- ==== Sys2Proof/Laws/Frames.lean ====
section
/-! SUPPORT. The fields the shared operations leave alone, one lemma each: the pump (R147), a ready (R103 to R106), the
timeout (R108), the sampler's enable line (R142), and the parts of a tick outside the DTE group (R201). -/

namespace Sys2Proof.Machine

/-- What the pump leaves alone: everything but the queue, the port's mirror, the trace and the host port. -/
theorem pump_keeps {α : Type} (f : State → α) (s : State)
    (h : ∀ (t : State) q e o p, f { t with serQ := q, serTxe := e, out := o, hostOp := p } = f t) :
    f (pump s) = f s := by
  rcases pump_cases s with k | ⟨-, -, b, q, -, ⟨-, k⟩ | ⟨-, k⟩⟩
  · rw [k]
  · rw [k]; exact h s _ _ _ _
  · rw [k]; exact h s _ _ _ _

/-- What a ready leaves alone: everything but the phase, its wait, the trace and the host port. -/
theorem ready_keeps {α : Type} (f : State → α) (status : Byte) (s : State)
    (h : ∀ (t : State) p w o q, f { t with twPhase := p, twWait := w, out := o, hostOp := q } = f t) :
    f (ready status s) = f s := by
  rcases ready_cases status s with ⟨-, k⟩ | ⟨-, -, k⟩ | ⟨-, -, k⟩ | ⟨-, -, k⟩ | ⟨-, e, -, k⟩ <;> rw [k]
  all_goals exact h s _ _ _ _

/-- What the timeout leaves alone: everything but the phase, its wait, the trace and the host port. -/
theorem busTimeout_keeps {α : Type} (f : State → α) (s : State)
    (h : ∀ (t : State) p w o q, f { t with twPhase := p, twWait := w, out := o, hostOp := q } = f t) :
    f (busTimeout s) = f s := by
  rcases busTimeout_cases s with ⟨-, k⟩ | ⟨-, n, -, ⟨-, k⟩ | ⟨-, k⟩⟩ <;> rw [k]
  all_goals exact h s _ _ _ _

/-- What the enable line leaves alone: everything but itself and the trace. -/
theorem driveAdcEnable_keeps {α : Type} (f : State → α) (v : Bool) (s : State)
    (h : ∀ (t : State) e o, f { t with adcEn := e, out := o } = f t) : f (driveAdcEnable v s) = f s := by
  unfold driveAdcEnable
  split
  · exact h s _ _
  · rfl

@[simp] theorem pump_cfg (s : State) : (pump s).cfg = s.cfg := pump_keeps (·.cfg) s (fun _ _ _ _ _ => rfl)
@[simp] theorem pump_stimuli (s : State) : (pump s).stimuli = s.stimuli :=
  pump_keeps (·.stimuli) s (fun _ _ _ _ _ => rfl)
@[simp] theorem pump_debounced (s : State) : (pump s).debounced = s.debounced :=
  pump_keeps (·.debounced) s (fun _ _ _ _ _ => rfl)
@[simp] theorem pump_rawSample (s : State) : (pump s).rawSample = s.rawSample :=
  pump_keeps (·.rawSample) s (fun _ _ _ _ _ => rfl)
@[simp] theorem pump_prevRaw (s : State) : (pump s).prevRaw = s.prevRaw :=
  pump_keeps (·.prevRaw) s (fun _ _ _ _ _ => rfl)
@[simp] theorem pump_reliable (s : State) : (pump s).reliable = s.reliable :=
  pump_keeps (·.reliable) s (fun _ _ _ _ _ => rfl)
@[simp] theorem pump_tickCnt (s : State) : (pump s).tickCnt = s.tickCnt :=
  pump_keeps (·.tickCnt) s (fun _ _ _ _ _ => rfl)
@[simp] theorem pump_modeCnt (s : State) : (pump s).modeCnt = s.modeCnt :=
  pump_keeps (·.modeCnt) s (fun _ _ _ _ _ => rfl)
@[simp] theorem pump_ratioCnt (s : State) : (pump s).ratioCnt = s.ratioCnt :=
  pump_keeps (·.ratioCnt) s (fun _ _ _ _ _ => rfl)
@[simp] theorem pump_serCnt (s : State) : (pump s).serCnt = s.serCnt := pump_keeps (·.serCnt) s (fun _ _ _ _ _ => rfl)
@[simp] theorem pump_serTrig (s : State) : (pump s).serTrig = s.serTrig :=
  pump_keeps (·.serTrig) s (fun _ _ _ _ _ => rfl)
@[simp] theorem pump_outMode (s : State) : (pump s).outMode = s.outMode :=
  pump_keeps (·.outMode) s (fun _ _ _ _ _ => rfl)
@[simp] theorem pump_outRatio (s : State) : (pump s).outRatio = s.outRatio :=
  pump_keeps (·.outRatio) s (fun _ _ _ _ _ => rfl)
@[simp] theorem pump_sample (s : State) : (pump s).sample = s.sample := pump_keeps (·.sample) s (fun _ _ _ _ _ => rfl)
@[simp] theorem pump_convPending (s : State) : (pump s).convPending = s.convPending :=
  pump_keeps (·.convPending) s (fun _ _ _ _ _ => rfl)
@[simp] theorem pump_adcEn (s : State) : (pump s).adcEn = s.adcEn := pump_keeps (·.adcEn) s (fun _ _ _ _ _ => rfl)
@[simp] theorem pump_serEn (s : State) : (pump s).serEn = s.serEn := pump_keeps (·.serEn) s (fun _ _ _ _ _ => rfl)
@[simp] theorem pump_rxReady (s : State) : (pump s).rxReady = s.rxReady :=
  pump_keeps (·.rxReady) s (fun _ _ _ _ _ => rfl)
@[simp] theorem pump_rxByte (s : State) : (pump s).rxByte = s.rxByte := pump_keeps (·.rxByte) s (fun _ _ _ _ _ => rfl)
@[simp] theorem pump_serN (s : State) : (pump s).serN = s.serN := pump_keeps (·.serN) s (fun _ _ _ _ _ => rfl)
@[simp] theorem pump_twPhase (s : State) : (pump s).twPhase = s.twPhase :=
  pump_keeps (·.twPhase) s (fun _ _ _ _ _ => rfl)
@[simp] theorem pump_twAddr (s : State) : (pump s).twAddr = s.twAddr := pump_keeps (·.twAddr) s (fun _ _ _ _ _ => rfl)
@[simp] theorem pump_twData (s : State) : (pump s).twData = s.twData := pump_keeps (·.twData) s (fun _ _ _ _ _ => rfl)
@[simp] theorem pump_twWait (s : State) : (pump s).twWait = s.twWait := pump_keeps (·.twWait) s (fun _ _ _ _ _ => rfl)

@[simp] theorem ready_cfg (status : Byte) (s : State) : (ready status s).cfg = s.cfg :=
  ready_keeps (·.cfg) status s (fun _ _ _ _ _ => rfl)
@[simp] theorem ready_stimuli (status : Byte) (s : State) : (ready status s).stimuli = s.stimuli :=
  ready_keeps (·.stimuli) status s (fun _ _ _ _ _ => rfl)
@[simp] theorem ready_debounced (status : Byte) (s : State) : (ready status s).debounced = s.debounced :=
  ready_keeps (·.debounced) status s (fun _ _ _ _ _ => rfl)
@[simp] theorem ready_rawSample (status : Byte) (s : State) : (ready status s).rawSample = s.rawSample :=
  ready_keeps (·.rawSample) status s (fun _ _ _ _ _ => rfl)
@[simp] theorem ready_prevRaw (status : Byte) (s : State) : (ready status s).prevRaw = s.prevRaw :=
  ready_keeps (·.prevRaw) status s (fun _ _ _ _ _ => rfl)
@[simp] theorem ready_reliable (status : Byte) (s : State) : (ready status s).reliable = s.reliable :=
  ready_keeps (·.reliable) status s (fun _ _ _ _ _ => rfl)
@[simp] theorem ready_tickCnt (status : Byte) (s : State) : (ready status s).tickCnt = s.tickCnt :=
  ready_keeps (·.tickCnt) status s (fun _ _ _ _ _ => rfl)
@[simp] theorem ready_modeCnt (status : Byte) (s : State) : (ready status s).modeCnt = s.modeCnt :=
  ready_keeps (·.modeCnt) status s (fun _ _ _ _ _ => rfl)
@[simp] theorem ready_ratioCnt (status : Byte) (s : State) : (ready status s).ratioCnt = s.ratioCnt :=
  ready_keeps (·.ratioCnt) status s (fun _ _ _ _ _ => rfl)
@[simp] theorem ready_serCnt (status : Byte) (s : State) : (ready status s).serCnt = s.serCnt :=
  ready_keeps (·.serCnt) status s (fun _ _ _ _ _ => rfl)
@[simp] theorem ready_serTrig (status : Byte) (s : State) : (ready status s).serTrig = s.serTrig :=
  ready_keeps (·.serTrig) status s (fun _ _ _ _ _ => rfl)
@[simp] theorem ready_outMode (status : Byte) (s : State) : (ready status s).outMode = s.outMode :=
  ready_keeps (·.outMode) status s (fun _ _ _ _ _ => rfl)
@[simp] theorem ready_outRatio (status : Byte) (s : State) : (ready status s).outRatio = s.outRatio :=
  ready_keeps (·.outRatio) status s (fun _ _ _ _ _ => rfl)
@[simp] theorem ready_sample (status : Byte) (s : State) : (ready status s).sample = s.sample :=
  ready_keeps (·.sample) status s (fun _ _ _ _ _ => rfl)
@[simp] theorem ready_convPending (status : Byte) (s : State) : (ready status s).convPending = s.convPending :=
  ready_keeps (·.convPending) status s (fun _ _ _ _ _ => rfl)
@[simp] theorem ready_adcEn (status : Byte) (s : State) : (ready status s).adcEn = s.adcEn :=
  ready_keeps (·.adcEn) status s (fun _ _ _ _ _ => rfl)
@[simp] theorem ready_serEn (status : Byte) (s : State) : (ready status s).serEn = s.serEn :=
  ready_keeps (·.serEn) status s (fun _ _ _ _ _ => rfl)
@[simp] theorem ready_serTxe (status : Byte) (s : State) : (ready status s).serTxe = s.serTxe :=
  ready_keeps (·.serTxe) status s (fun _ _ _ _ _ => rfl)
@[simp] theorem ready_rxReady (status : Byte) (s : State) : (ready status s).rxReady = s.rxReady :=
  ready_keeps (·.rxReady) status s (fun _ _ _ _ _ => rfl)
@[simp] theorem ready_rxByte (status : Byte) (s : State) : (ready status s).rxByte = s.rxByte :=
  ready_keeps (·.rxByte) status s (fun _ _ _ _ _ => rfl)
@[simp] theorem ready_serQ (status : Byte) (s : State) : (ready status s).serQ = s.serQ :=
  ready_keeps (·.serQ) status s (fun _ _ _ _ _ => rfl)
@[simp] theorem ready_serN (status : Byte) (s : State) : (ready status s).serN = s.serN :=
  ready_keeps (·.serN) status s (fun _ _ _ _ _ => rfl)
@[simp] theorem ready_twAddr (status : Byte) (s : State) : (ready status s).twAddr = s.twAddr :=
  ready_keeps (·.twAddr) status s (fun _ _ _ _ _ => rfl)
@[simp] theorem ready_twData (status : Byte) (s : State) : (ready status s).twData = s.twData :=
  ready_keeps (·.twData) status s (fun _ _ _ _ _ => rfl)

@[simp] theorem busTimeout_cfg (s : State) : (busTimeout s).cfg = s.cfg :=
  busTimeout_keeps (·.cfg) s (fun _ _ _ _ _ => rfl)
@[simp] theorem busTimeout_stimuli (s : State) : (busTimeout s).stimuli = s.stimuli :=
  busTimeout_keeps (·.stimuli) s (fun _ _ _ _ _ => rfl)
@[simp] theorem busTimeout_debounced (s : State) : (busTimeout s).debounced = s.debounced :=
  busTimeout_keeps (·.debounced) s (fun _ _ _ _ _ => rfl)
@[simp] theorem busTimeout_rawSample (s : State) : (busTimeout s).rawSample = s.rawSample :=
  busTimeout_keeps (·.rawSample) s (fun _ _ _ _ _ => rfl)
@[simp] theorem busTimeout_prevRaw (s : State) : (busTimeout s).prevRaw = s.prevRaw :=
  busTimeout_keeps (·.prevRaw) s (fun _ _ _ _ _ => rfl)
@[simp] theorem busTimeout_reliable (s : State) : (busTimeout s).reliable = s.reliable :=
  busTimeout_keeps (·.reliable) s (fun _ _ _ _ _ => rfl)
@[simp] theorem busTimeout_tickCnt (s : State) : (busTimeout s).tickCnt = s.tickCnt :=
  busTimeout_keeps (·.tickCnt) s (fun _ _ _ _ _ => rfl)
@[simp] theorem busTimeout_modeCnt (s : State) : (busTimeout s).modeCnt = s.modeCnt :=
  busTimeout_keeps (·.modeCnt) s (fun _ _ _ _ _ => rfl)
@[simp] theorem busTimeout_ratioCnt (s : State) : (busTimeout s).ratioCnt = s.ratioCnt :=
  busTimeout_keeps (·.ratioCnt) s (fun _ _ _ _ _ => rfl)
@[simp] theorem busTimeout_serCnt (s : State) : (busTimeout s).serCnt = s.serCnt :=
  busTimeout_keeps (·.serCnt) s (fun _ _ _ _ _ => rfl)
@[simp] theorem busTimeout_serTrig (s : State) : (busTimeout s).serTrig = s.serTrig :=
  busTimeout_keeps (·.serTrig) s (fun _ _ _ _ _ => rfl)
@[simp] theorem busTimeout_outMode (s : State) : (busTimeout s).outMode = s.outMode :=
  busTimeout_keeps (·.outMode) s (fun _ _ _ _ _ => rfl)
@[simp] theorem busTimeout_outRatio (s : State) : (busTimeout s).outRatio = s.outRatio :=
  busTimeout_keeps (·.outRatio) s (fun _ _ _ _ _ => rfl)
@[simp] theorem busTimeout_sample (s : State) : (busTimeout s).sample = s.sample :=
  busTimeout_keeps (·.sample) s (fun _ _ _ _ _ => rfl)
@[simp] theorem busTimeout_convPending (s : State) : (busTimeout s).convPending = s.convPending :=
  busTimeout_keeps (·.convPending) s (fun _ _ _ _ _ => rfl)
@[simp] theorem busTimeout_adcEn (s : State) : (busTimeout s).adcEn = s.adcEn :=
  busTimeout_keeps (·.adcEn) s (fun _ _ _ _ _ => rfl)
@[simp] theorem busTimeout_serEn (s : State) : (busTimeout s).serEn = s.serEn :=
  busTimeout_keeps (·.serEn) s (fun _ _ _ _ _ => rfl)
@[simp] theorem busTimeout_serTxe (s : State) : (busTimeout s).serTxe = s.serTxe :=
  busTimeout_keeps (·.serTxe) s (fun _ _ _ _ _ => rfl)
@[simp] theorem busTimeout_rxReady (s : State) : (busTimeout s).rxReady = s.rxReady :=
  busTimeout_keeps (·.rxReady) s (fun _ _ _ _ _ => rfl)
@[simp] theorem busTimeout_rxByte (s : State) : (busTimeout s).rxByte = s.rxByte :=
  busTimeout_keeps (·.rxByte) s (fun _ _ _ _ _ => rfl)
@[simp] theorem busTimeout_serQ (s : State) : (busTimeout s).serQ = s.serQ :=
  busTimeout_keeps (·.serQ) s (fun _ _ _ _ _ => rfl)
@[simp] theorem busTimeout_serN (s : State) : (busTimeout s).serN = s.serN :=
  busTimeout_keeps (·.serN) s (fun _ _ _ _ _ => rfl)
@[simp] theorem busTimeout_twAddr (s : State) : (busTimeout s).twAddr = s.twAddr :=
  busTimeout_keeps (·.twAddr) s (fun _ _ _ _ _ => rfl)
@[simp] theorem busTimeout_twData (s : State) : (busTimeout s).twData = s.twData :=
  busTimeout_keeps (·.twData) s (fun _ _ _ _ _ => rfl)

@[simp] theorem driveAdcEnable_cfg (v : Bool) (s : State) : (driveAdcEnable v s).cfg = s.cfg :=
  driveAdcEnable_keeps (·.cfg) v s (fun _ _ _ => rfl)
@[simp] theorem driveAdcEnable_stimuli (v : Bool) (s : State) : (driveAdcEnable v s).stimuli = s.stimuli :=
  driveAdcEnable_keeps (·.stimuli) v s (fun _ _ _ => rfl)
@[simp] theorem driveAdcEnable_debounced (v : Bool) (s : State) : (driveAdcEnable v s).debounced = s.debounced :=
  driveAdcEnable_keeps (·.debounced) v s (fun _ _ _ => rfl)
@[simp] theorem driveAdcEnable_rawSample (v : Bool) (s : State) : (driveAdcEnable v s).rawSample = s.rawSample :=
  driveAdcEnable_keeps (·.rawSample) v s (fun _ _ _ => rfl)
@[simp] theorem driveAdcEnable_prevRaw (v : Bool) (s : State) : (driveAdcEnable v s).prevRaw = s.prevRaw :=
  driveAdcEnable_keeps (·.prevRaw) v s (fun _ _ _ => rfl)
@[simp] theorem driveAdcEnable_reliable (v : Bool) (s : State) : (driveAdcEnable v s).reliable = s.reliable :=
  driveAdcEnable_keeps (·.reliable) v s (fun _ _ _ => rfl)
@[simp] theorem driveAdcEnable_tickCnt (v : Bool) (s : State) : (driveAdcEnable v s).tickCnt = s.tickCnt :=
  driveAdcEnable_keeps (·.tickCnt) v s (fun _ _ _ => rfl)
@[simp] theorem driveAdcEnable_modeCnt (v : Bool) (s : State) : (driveAdcEnable v s).modeCnt = s.modeCnt :=
  driveAdcEnable_keeps (·.modeCnt) v s (fun _ _ _ => rfl)
@[simp] theorem driveAdcEnable_ratioCnt (v : Bool) (s : State) : (driveAdcEnable v s).ratioCnt = s.ratioCnt :=
  driveAdcEnable_keeps (·.ratioCnt) v s (fun _ _ _ => rfl)
@[simp] theorem driveAdcEnable_serCnt (v : Bool) (s : State) : (driveAdcEnable v s).serCnt = s.serCnt :=
  driveAdcEnable_keeps (·.serCnt) v s (fun _ _ _ => rfl)
@[simp] theorem driveAdcEnable_serTrig (v : Bool) (s : State) : (driveAdcEnable v s).serTrig = s.serTrig :=
  driveAdcEnable_keeps (·.serTrig) v s (fun _ _ _ => rfl)
@[simp] theorem driveAdcEnable_outMode (v : Bool) (s : State) : (driveAdcEnable v s).outMode = s.outMode :=
  driveAdcEnable_keeps (·.outMode) v s (fun _ _ _ => rfl)
@[simp] theorem driveAdcEnable_outRatio (v : Bool) (s : State) : (driveAdcEnable v s).outRatio = s.outRatio :=
  driveAdcEnable_keeps (·.outRatio) v s (fun _ _ _ => rfl)
@[simp] theorem driveAdcEnable_sample (v : Bool) (s : State) : (driveAdcEnable v s).sample = s.sample :=
  driveAdcEnable_keeps (·.sample) v s (fun _ _ _ => rfl)
@[simp] theorem driveAdcEnable_convPending (v : Bool) (s : State) : (driveAdcEnable v s).convPending = s.convPending :=
  driveAdcEnable_keeps (·.convPending) v s (fun _ _ _ => rfl)
@[simp] theorem driveAdcEnable_serEn (v : Bool) (s : State) : (driveAdcEnable v s).serEn = s.serEn :=
  driveAdcEnable_keeps (·.serEn) v s (fun _ _ _ => rfl)
@[simp] theorem driveAdcEnable_serTxe (v : Bool) (s : State) : (driveAdcEnable v s).serTxe = s.serTxe :=
  driveAdcEnable_keeps (·.serTxe) v s (fun _ _ _ => rfl)
@[simp] theorem driveAdcEnable_rxReady (v : Bool) (s : State) : (driveAdcEnable v s).rxReady = s.rxReady :=
  driveAdcEnable_keeps (·.rxReady) v s (fun _ _ _ => rfl)
@[simp] theorem driveAdcEnable_rxByte (v : Bool) (s : State) : (driveAdcEnable v s).rxByte = s.rxByte :=
  driveAdcEnable_keeps (·.rxByte) v s (fun _ _ _ => rfl)
@[simp] theorem driveAdcEnable_serQ (v : Bool) (s : State) : (driveAdcEnable v s).serQ = s.serQ :=
  driveAdcEnable_keeps (·.serQ) v s (fun _ _ _ => rfl)
@[simp] theorem driveAdcEnable_serN (v : Bool) (s : State) : (driveAdcEnable v s).serN = s.serN :=
  driveAdcEnable_keeps (·.serN) v s (fun _ _ _ => rfl)
@[simp] theorem driveAdcEnable_twPhase (v : Bool) (s : State) : (driveAdcEnable v s).twPhase = s.twPhase :=
  driveAdcEnable_keeps (·.twPhase) v s (fun _ _ _ => rfl)
@[simp] theorem driveAdcEnable_twAddr (v : Bool) (s : State) : (driveAdcEnable v s).twAddr = s.twAddr :=
  driveAdcEnable_keeps (·.twAddr) v s (fun _ _ _ => rfl)
@[simp] theorem driveAdcEnable_twData (v : Bool) (s : State) : (driveAdcEnable v s).twData = s.twData :=
  driveAdcEnable_keeps (·.twData) v s (fun _ _ _ => rfl)
@[simp] theorem driveAdcEnable_twWait (v : Bool) (s : State) : (driveAdcEnable v s).twWait = s.twWait :=
  driveAdcEnable_keeps (·.twWait) v s (fun _ _ _ => rfl)
@[simp] theorem driveAdcEnable_hostOp (v : Bool) (s : State) : (driveAdcEnable v s).hostOp = s.hostOp :=
  driveAdcEnable_keeps (·.hostOp) v s (fun _ _ _ => rfl)

@[simp] theorem dteStep_cfg (raw : Bool) (s : State) : (dteStep raw s).cfg = s.cfg := (dteStep_frame raw s).cfg
@[simp] theorem dteStep_stimuli (raw : Bool) (s : State) : (dteStep raw s).stimuli = s.stimuli := (dteStep_frame raw s).stimuli
@[simp] theorem dteStep_out (raw : Bool) (s : State) : (dteStep raw s).out = s.out := (dteStep_frame raw s).out
@[simp] theorem dteStep_sample (raw : Bool) (s : State) : (dteStep raw s).sample = s.sample := (dteStep_frame raw s).sample
@[simp] theorem dteStep_convPending (raw : Bool) (s : State) : (dteStep raw s).convPending = s.convPending := (dteStep_frame raw s).convPending
@[simp] theorem dteStep_adcEn (raw : Bool) (s : State) : (dteStep raw s).adcEn = s.adcEn := (dteStep_frame raw s).adcEn
@[simp] theorem dteStep_serEn (raw : Bool) (s : State) : (dteStep raw s).serEn = s.serEn := (dteStep_frame raw s).serEn
@[simp] theorem dteStep_serTxe (raw : Bool) (s : State) : (dteStep raw s).serTxe = s.serTxe := (dteStep_frame raw s).serTxe
@[simp] theorem dteStep_rxReady (raw : Bool) (s : State) : (dteStep raw s).rxReady = s.rxReady := (dteStep_frame raw s).rxReady
@[simp] theorem dteStep_rxByte (raw : Bool) (s : State) : (dteStep raw s).rxByte = s.rxByte := (dteStep_frame raw s).rxByte
@[simp] theorem dteStep_serQ (raw : Bool) (s : State) : (dteStep raw s).serQ = s.serQ := (dteStep_frame raw s).serQ
@[simp] theorem dteStep_serN (raw : Bool) (s : State) : (dteStep raw s).serN = s.serN := (dteStep_frame raw s).serN
@[simp] theorem dteStep_twPhase (raw : Bool) (s : State) : (dteStep raw s).twPhase = s.twPhase := (dteStep_frame raw s).twPhase
@[simp] theorem dteStep_twAddr (raw : Bool) (s : State) : (dteStep raw s).twAddr = s.twAddr := (dteStep_frame raw s).twAddr
@[simp] theorem dteStep_twData (raw : Bool) (s : State) : (dteStep raw s).twData = s.twData := (dteStep_frame raw s).twData
@[simp] theorem dteStep_twWait (raw : Bool) (s : State) : (dteStep raw s).twWait = s.twWait := (dteStep_frame raw s).twWait
@[simp] theorem dteStep_hostOp (raw : Bool) (s : State) : (dteStep raw s).hostOp = s.hostOp := (dteStep_frame raw s).hostOp

end Sys2Proof.Machine
end

