-- ==== Sys2Proof/Laws/HostSoftware.lean ====
section
/-! SUPPORT. How host programs run: one program after another, and a driver's bus write. -/

namespace Sys2Proof.Machine

/-- The act spends a response. -/
def HostAct.isCommand : HostAct → Bool
  | .command _ => true
  | .delay _ => false

@[simp] theorem countP_command (i : Instr) (acts : List HostAct) :
    (HostAct.command i :: acts).countP HostAct.isCommand = acts.countP HostAct.isCommand + 1 :=
  List.countP_cons_of_pos rfl

@[simp] theorem countP_delay (us : Nat) (acts : List HostAct) :
    (HostAct.delay us :: acts).countP HostAct.isCommand = acts.countP HostAct.isCommand :=
  List.countP_cons_of_neg (by simp [HostAct.isCommand])

@[simp] theorem busWrites_append (a b : List HostAct) : busWrites (a ++ b) = busWrites a ++ busWrites b :=
  List.filterMap_append

@[simp] theorem busWrites_nil : busWrites [] = [] := rfl

@[simp] theorem busWrites_delay (us : Nat) (acts : List HostAct) : busWrites (.delay us :: acts) = busWrites acts := rfl

@[simp] theorem busWrites_twWrite (dev : BitVec 7) (byte : Byte) (acts : List HostAct) :
    busWrites (.command (.twWrite dev byte) :: acts) = byte :: busWrites acts := rfl

@[simp] theorem HostProg.bind_done {α β : Type} (a : α) (f : α → HostProg β) : (HostProg.done a).bind f = f a := rfl

@[simp] theorem HostProg.bind_command {α β : Type} (i : Instr) (next : Word → HostProg α) (f : α → HostProg β) :
    (HostProg.command i next).bind f = .command i (fun r => (next r).bind f) := rfl

@[simp] theorem HostProg.bind_delay {α β : Type} (us : Nat) (next : HostProg α) (f : α → HostProg β) :
    (HostProg.delay us next).bind f = .delay us (next.bind f) := rfl

@[simp] theorem HostProg.run_done {α : Type} (a : α) (rs : List Word) : (HostProg.done a).run rs = ([], some a) := by
  simp [HostProg.run]

@[simp] theorem HostProg.run_delay {α : Type} (us : Nat) (next : HostProg α) (rs : List Word) :
    (HostProg.delay us next).run rs = (.delay us :: (next.run rs).1, (next.run rs).2) := by
  simp [HostProg.run]

@[simp] theorem HostProg.run_command_cons {α : Type} (i : Instr) (next : Word → HostProg α) (r : Word)
    (rs : List Word) :
    (HostProg.command i next).run (r :: rs) = (.command i :: ((next r).run rs).1, ((next r).run rs).2) := by
  simp [HostProg.run]

/-- A program that ends leaves the responses it has not spent to the program after it. -/
theorem HostProg.run_bind {α β : Type} {x : HostProg α} {f : α → HostProg β} {rs : List Word} {a : α}
    (h : (x.run rs).2 = some a) :
    (x.bind f).run rs =
      ((x.run rs).1 ++ ((f a).run (rs.drop ((x.run rs).1.countP HostAct.isCommand))).1,
        ((f a).run (rs.drop ((x.run rs).1.countP HostAct.isCommand))).2) := by
  induction x generalizing rs with
  | done b => simp_all
  | delay us next ih => simp_all
  | command i next ih =>
    cases rs with
    | nil => simp [HostProg.run] at h
    | cons r rs =>
      simp only [HostProg.run_command_cons] at h
      simp [ih r h]

/-- A part that surfaces no error hands over to the next. -/
theorem andThen_run_ok {x y : HostProg Word} {rs : List Word} (h : (x.run rs).2 = some 0#32) :
    (andThen x y).run rs =
      ((x.run rs).1 ++ (y.run (rs.drop ((x.run rs).1.countP HostAct.isCommand))).1,
        (y.run (rs.drop ((x.run rs).1.countP HostAct.isCommand))).2) := by
  rw [andThen, HostProg.run_bind h]
  simp

/-- A part that surfaces an error ends the whole. -/
theorem andThen_run_error {x y : HostProg Word} {rs : List Word} {code : Word} (h : (x.run rs).2 = some code)
    (hne : code ≠ 0#32) : (andThen x y).run rs = ((x.run rs).1, some code) := by
  rw [andThen, HostProg.run_bind h]
  simp [hne]

/-- A driver's bus write: one write, and the code the host surfaces. -/
theorem driverWrite_run (p : LcdParams) (byte : Byte) (r : Word) (rs : List Word) :
    (driverWrite p byte).run (r :: rs) =
      ([.command (.twWrite p.addr byte)], some (if p.propagatesErrors then r else 0#32)) := by
  simp [driverWrite, writeByte]

end Sys2Proof.Machine
end

