-- ==== Sys2Proof/Laws/PerInstr.lean ====
section
/-! SUPPORT. The family WordShape: every term's word carries its row's opcode, a zero `c` field, and bit 31 set
exactly for events (R80, R81, R83, R84). -/

namespace Sys2Proof.Laws.WordShape

/-- The shape of a term's word. -/
def Statement (i : Instr) : Prop :=
  opField (encode i) = i.row.opcode ∧ cField (encode i) = 0#8 ∧ (encode i).msb = i.isEvent

theorem twWrite (dev : BitVec 7) (byte : Byte) : Statement (.twWrite dev byte) :=
  ⟨opField_layout _ _ _ _, cField_layout _ _ _ _, (msb_layout _ _ _ _).trans rfl⟩

theorem adcStart : Statement .adcStart :=
  ⟨opField_layout _ _ _ _, cField_layout _ _ _ _, (msb_layout _ _ _ _).trans rfl⟩

theorem serTx (byte : Byte) : Statement (.serTx byte) :=
  ⟨opField_layout _ _ _ _, cField_layout _ _ _ _, (msb_layout _ _ _ _).trans rfl⟩

theorem serLine : Statement .serLine :=
  ⟨opField_layout _ _ _ _, cField_layout _ _ _ _, (msb_layout _ _ _ _).trans rfl⟩

theorem serRxpoll : Statement .serRxpoll :=
  ⟨opField_layout _ _ _ _, cField_layout _ _ _ _, (msb_layout _ _ _ _).trans rfl⟩

theorem rd (sel : Byte) : Statement (.rd sel) :=
  ⟨opField_layout _ _ _ _, cField_layout _ _ _ _, (msb_layout _ _ _ _).trans rfl⟩

theorem tick (raw : Bool) : Statement (.tick raw) :=
  ⟨opField_layout _ _ _ _, cField_layout _ _ _ _, (msb_layout _ _ _ _).trans rfl⟩

theorem convDone (sample : BitVec 16) : Statement (.convDone sample) :=
  ⟨opField_layout _ _ _ _, cField_layout _ _ _ _, (msb_layout _ _ _ _).trans rfl⟩

theorem twReady (status : Byte) : Statement (.twReady status) :=
  ⟨opField_layout _ _ _ _, cField_layout _ _ _ _, (msb_layout _ _ _ _).trans rfl⟩

theorem serTxe : Statement .serTxe :=
  ⟨opField_layout _ _ _ _, cField_layout _ _ _ _, (msb_layout _ _ _ _).trans rfl⟩

theorem serRx (byte : Byte) : Statement (.serRx byte) :=
  ⟨opField_layout _ _ _ _, cField_layout _ _ _ _, (msb_layout _ _ _ _).trans rfl⟩

end Sys2Proof.Laws.WordShape
end

