-- ==== Sys2Proof/Laws/Ports.lean ====
section
/-! SUPPORT. What driving output events on the ports leaves alone, and what the last view of an edge shows (R94). -/

namespace Sys2Proof.Machine

/-- Output events drive strobes, data and `adc_en`, never `cmd_ready` or the two digital output lines. -/
theorem drivePort_foldl_levels (es : List OutEvent) (q : PortsOut) :
    (es.foldl drivePort q).cmdReady = q.cmdReady ∧ (es.foldl drivePort q).outMode = q.outMode ∧
      (es.foldl drivePort q).outRatio = q.outRatio := by
  induction es generalizing q with
  | nil => exact ⟨rfl, rfl, rfl⟩
  | cons e es ih => cases e <;> exact ih _

/-- The view of a step shows the levels of the state after it. -/
theorem portsOut_levels (s t : State) :
    (portsOut s t).cmdReady = cmdReady t ∧ (portsOut s t).outMode = t.outMode ∧
      (portsOut s t).outRatio = t.outRatio :=
  drivePort_foldl_levels _ _

/-- The last view of stimuli offered in turn shows the levels of the state they leave. -/
theorem offerOutputs_getLast {c : Config} (p : PortsIn c) (order : List PortStimulus) (s : State) (h : order ≠ []) :
    ∃ shown, (offerOutputs p order s).getLast? = some shown ∧
      shown.cmdReady = cmdReady (order.foldl (offer p) s) ∧
      shown.outMode = (order.foldl (offer p) s).outMode ∧
      shown.outRatio = (order.foldl (offer p) s).outRatio := by
  induction order generalizing s with
  | nil => exact absurd rfl h
  | cons x xs ih =>
    by_cases hx : xs = []
    · subst hx
      exact ⟨_, rfl, portsOut_levels _ _⟩
    · obtain ⟨shown, hlast, hlevels⟩ := ih (offer p s x) hx
      exact ⟨shown, by simp [offerOutputs, List.getLast?_cons, hlast], hlevels⟩

end Sys2Proof.Machine
end

