-- ==== Sys2Proof/Laws/Serial.lean ====
section
/-! SUPPORT. The serial half's lengths and its start of a send: how long a decimal text and a status line can be
(R46, R150, R151), and what queuing bytes does at once (R146, R149). -/

namespace Sys2Proof.Machine

theorem decDigits_length (fuel n : Nat) (acc : List Byte) :
    (decDigits fuel n acc).length = (decDigits fuel n []).length + acc.length := by
  induction fuel generalizing n acc with
  | zero => simp [decDigits]; omega
  | succ fuel ih =>
    unfold decDigits
    split
    · simp; omega
    · rw [ih, ih (n / 10) [_]]; simp; omega

theorem decDigits_pos (fuel n : Nat) : 1 ≤ (decDigits fuel n []).length := by
  cases fuel with
  | zero => simp [decDigits]
  | succ fuel =>
    unfold decDigits
    split
    · simp
    · rw [decDigits_length]; simp

/-- With fuel enough, a larger number has no shorter text. -/
theorem decDigits_mono (m : Nat) : ∀ n f g : Nat, m ≤ n → m ≤ f → n ≤ g →
    (decDigits f m []).length ≤ (decDigits g n []).length := by
  induction m using Nat.strong_induction_on with
  | _ m ih =>
    intro n f g h hf hg
    have hpos := decDigits_pos g n
    rcases f with _ | f
    · simpa [decDigits] using hpos
    by_cases h1 : m < 10
    · simpa [decDigits, h1] using hpos
    · obtain ⟨g, rfl⟩ : ∃ k, g = k + 1 := ⟨g - 1, by omega⟩
      have := ih (m / 10) (by omega) (n / 10) f g (by omega) (by omega) (by omega)
      unfold decDigits
      rw [if_neg h1, if_neg (by omega), decDigits_length, decDigits_length g]
      simpa using this

theorem dec_length_mono {m n : Nat} (h : m ≤ n) : (dec m).length ≤ (dec n).length :=
  decDigits_mono m n m n h le_rfl le_rfl

/-- A line is never longer than the configuration's bound (R46). -/
theorem statusLine_le_maxLine {c : Config} {n : Nat} (h : n < 2 ^ c.adcBits) :
    (statusLine c n).length ≤ maxLine c := by
  have := dec_length_mono (m := n) (n := 2 ^ c.adcBits - 1) (by omega)
  simp [statusLine, maxLine]
  omega

/-- A line has a first byte and bytes after it (its colon and space, R150). -/
theorem statusLine_cons (c : Config) (n : Nat) : ∃ b q, statusLine c n = b :: q ∧ q ≠ [] := by
  unfold statusLine
  rcases c.linePrefix with _ | ⟨b, q⟩ <;> simp

/-- A send that finds the port full is outstanding with all its bytes queued. -/
theorem beginSend_waiting {op : HostOp} {bytes : List Byte} {s : State} (h : s.serTxe = false) :
    beginSend op bytes s = { s with serQ := bytes, serN := BitVec.ofNat 8 bytes.length, hostOp := op } :=
  pump_of_idle (by simp [h])

/-- A one-byte send that finds the port empty is answered at once. -/
theorem beginSend_single {op : HostOp} {b : Byte} {s : State} (ho : op = .tx ∨ op = .line) (h : s.serTxe = true) :
    beginSend op [b] s =
      (State.emit { s with serQ := [], serN := 1#8, serTxe := false, hostOp := op } (.serByte b)).respond 1#32 :=
  pump_last ho h rfl

/-- A longer send that finds the port empty writes its first byte and is outstanding. -/
theorem beginSend_more {op : HostOp} {b : Byte} {q : List Byte} {s : State} (ho : op = .tx ∨ op = .line)
    (h : s.serTxe = true) (hq : q ≠ []) :
    beginSend op (b :: q) s =
      State.emit { s with serQ := q, serN := BitVec.ofNat 8 (b :: q).length, serTxe := false, hostOp := op }
        (.serByte b) :=
  pump_more ho h rfl hq

end Sys2Proof.Machine
end

