-- ==== Sys2Proof/Laws/Step.lean ====
section
/-! SUPPORT. What a fetch and a step can do, once. -/

namespace Sys2Proof.Machine

/-- A step that happens ran a decoded stimulus, or answered a host word that spells no command. -/
theorem step_next {s t : State} (h : step s = .next t) :
    configValid s.cfg = true ∧ ∃ w rest, s.stimuli = w :: rest ∧
      ((∃ i, decode s.cfg w = .instr i ∧ exec i { s with stimuli := rest } = .next t) ∨
        (decode s.cfg w = .noCommand ∧ execNoCommand { s with stimuli := rest } = .next t)) := by
  unfold step fetch at h
  by_cases hc : configValid s.cfg = true
  · rcases hs : s.stimuli with _ | ⟨w, rest⟩
    · simp [hc, hs] at h
    · refine ⟨hc, w, rest, rfl, ?_⟩
      rcases hd : decode s.cfg w with i | _ | _
      · simp only [hc, hs, hd, if_true] at h
        exact .inl ⟨i, rfl, h⟩
      · simp only [hc, hs, hd, if_true] at h
        exact .inr ⟨rfl, h⟩
      · simp [hc, hs, hd] at h
  · simp [hc] at h

/-- The fetch of a word that decodes to a term. -/
theorem fetch_instr {s : State} {w : Word} {rest : List Word} {i : Instr} (hc : configValid s.cfg = true)
    (hs : s.stimuli = w :: rest) (hd : decode s.cfg w = .instr i) :
    fetch s = .run i { s with stimuli := rest } := by
  simp [fetch, hc, hs, hd]

end Sys2Proof.Machine
end

