-- ==== Sys2Proof/Tests/Slice0.lean ====
section
/-! SUPPORT. The model's own tests, expected results from spec/95_test_vectors.md (vectors V1 to V31, examples X1 to
X7) or worked out by hand from the rule named; and for each obligation with hypotheses a named witness that meets
them. -/

namespace Sys2Proof.Tests

open Sys2Proof.Machine Sys2Proof.Safety

/-! ## Small states -/

/-- Vectors with a short window: `DEBOUNCE_WINDOW = 2`. -/
def window2 : Config := { Config.rich with debounceWindow := 2 }

/-- Vectors with `TW_TIMEOUT = 3`. -/
def timeout3 : Config := { Config.rich with twTimeout := some 3 }

/-- A transaction outstanding in a phase. -/
def inPhase (p : TwPhase) : State :=
  { State.reset with twPhase := p, hostOp := .tw, twAddr := 0x27#7, twData := 0x0C#8, out := [.twStart] }

/-- A send of two bytes outstanding. -/
def inSend : State :=
  { State.reset with hostOp := .line, serTxe := false, serQ := [0x32#8, 0x0A#8], serN := 8#8 }

/-- The button held for two windows, in a mode (V14, V15). -/
def holding (modeCnt : Nat) : State :=
  { State.resetWith window2 with
    debounced := true, reliable := true, rawSample := true, prevRaw := true, modeCnt := modeCnt
    outMode := modeCnt % 2 == 1 }

/-- A word presented. -/
def given (s : State) (w : Word) : State := { s with stimuli := [w] }

/-- What an observer sees of a step that happens. -/
def seen {α : Type} (f : State → α) (o : Host.Outcome State Fault Refusal) : Option α :=
  match o with
  | .next t => some (f t)
  | .fault _ => none
  | .refused _ => none

/-- The reason a step does not happen. -/
def refusal (o : Host.Outcome State Fault Refusal) : Option Refusal :=
  match o with
  | .next _ => none
  | .fault _ => none
  | .refused r => some r

/-! ## Well-formedness and decoding -/

/-- R86, R91: 1024 is no 10-bit sample; 1023 is. -/
theorem test_wellFormed_convDone : Instr.wellFormed Config.rich (.convDone 1024#16) = false ∧
    Instr.wellFormed Config.rich (.convDone 1023#16) = true := by decide

/-- V31, `TW_WRITE 0x27, 0x0C`: `op` 00000001, `c` 0, `a` 0 and 0100111, `b` 00001100 (R85). -/
theorem test_decode_twWrite :
    decode Config.rich 0b00000001_00000000_00100111_00001100#32 = .instr (.twWrite 0x27#7 0x0C#8) := by decide

theorem test_decode_adcStart : decode Config.rich 0b00000010_00000000_00000000_00000000#32 = .instr .adcStart := by
  decide

theorem test_decode_serTx : decode Config.rich 0b00000011_00000000_00000000_01000001#32 = .instr (.serTx 0x41#8) := by
  decide

theorem test_decode_serLine : decode Config.rich 0b00000100_00000000_00000000_00000000#32 = .instr .serLine := by
  decide

theorem test_decode_serRxpoll : decode Config.rich 0b00000101_00000000_00000000_00000000#32 = .instr .serRxpoll := by
  decide

theorem test_decode_rd : decode Config.rich 0b00000110_00000000_00000000_00001111#32 = .instr (.rd 0x0F#8) := by
  decide

theorem test_decode_tick : decode Config.rich 0b10000000_00000000_00000000_00000001#32 = .instr (.tick true) := by
  decide

theorem test_decode_convDone :
    decode Config.rich 0b10000001_00000000_00000001_11111111#32 = .instr (.convDone 511#16) := by decide

theorem test_decode_twReady : decode Config.rich 0b10000010_00000000_00000000_00011000#32 = .instr (.twReady 0x18#8) := by
  decide

theorem test_decode_serTxe : decode Config.rich 0b10000011_00000000_00000000_00000000#32 = .instr .serTxe := by decide

theorem test_decode_serRx : decode Config.rich 0b10000100_00000000_00000000_01110100#32 = .instr (.serRx 0x74#8) := by
  decide

/-- V29: host words that spell nothing. -/
theorem test_decode_noCommand :
    [0x00000000#32, 0x07000000#32, 0x7F000000#32, 0x0100A70C#32, 0x0101270C#32, 0x02000001#32, 0x03000141#32,
      0x04010000#32, 0x05000100#32, 0x06000113#32].map (decode Config.rich) = List.replicate 10 .noCommand := by decide

/-- V30: event words that are refused. -/
theorem test_decode_notStimulus :
    [0x80000002#32, 0x81000400#32, 0x81010000#32, 0x82000108#32, 0x83000001#32, 0x84000100#32, 0x85000000#32,
      0xFF000000#32].map (decode Config.rich) = List.replicate 8 .notStimulus := by decide

/-- R62(e), V31: `0x0100270C` is stored 01 00 27 0C. -/
theorem test_decodeBytes_order :
    wordBytes 0x0100270C#32 = [0x01#8, 0x00#8, 0x27#8, 0x0C#8] ∧
      decodeBytes Config.rich [0x01#8, 0x00#8, 0x27#8, 0x0C#8, 0xFF#8] =
        .word (.instr (.twWrite 0x27#7 0x0C#8)) [0xFF#8] := by decide

/-! ## TWM -/

/-- V1, first line. -/
theorem test_twWrite_starts :
    seen (fun t => (t.out, t.twPhase, t.hostOp)) (step (given State.reset 0x0100270C#32)) =
      some ([.twStart], .wStart, .tw) := by decide

/-- V10: a host word while a command is outstanding has no step. -/
theorem test_rd_refused_while_busy :
    refusal (step (given (inPhase .wStart) 0x06000000#32)) = some .hostBusy := by decide

/-- V5: with `TW_WRITE_BIT = 1` the address byte of device 0x27 is 0x4F. -/
theorem test_twReady_direction_bit :
    seen (fun t => t.out) (exec (.twReady 0x08#8)
      { inPhase .wStart with cfg := { Config.rich with twWriteBit := 1#1 } }) =
      some [.twStart, .twSend 0x4F#8] := by decide

/-- X5: an address that is not acknowledged ends the transaction with code 2, no data phase and no STOP. -/
theorem test_twReady_address_nack :
    seen (fun t => (t.out, t.twPhase, t.hostOp)) (step (given (inPhase .wAddr) 0x82000020#32)) =
      some ([.twStart, .rsp 2#32], .idle, .none) := by decide

/-! ## DTE -/

/-- X1, tick 12, from the state of tick 11: the agreeing sample sets the flag, and the mode holds. -/
theorem test_tick_agreeing_window :
    seen (fun t => (t.tickCnt, t.debounced, t.modeCnt, t.outMode)) (exec (.tick true)
      { State.resetWith window2 with
        tickCnt := 2, rawSample := true, prevRaw := true, modeCnt := 3, outMode := true }) =
      some (0, true, 3, true) := by decide

/-- V7, third tick: the allowance of the phase runs out. -/
theorem test_tick_timeout :
    seen (fun t => (t.out, t.twPhase, t.hostOp, t.twWait)) (exec (.tick false)
      { inPhase .wStart with cfg := timeout3, twWait := 2 }) =
      some ([.twStart, .rsp 4#32], .idle, .none, 3) := by decide

/-- V13: the derived period at the samples where the truncation shows. -/
theorem test_ratio_truncates :
    [0, 1, 2, 81, 82, 511, 512, 639, 640, 1022, 1023].map (ratioOf Config.rich) =
      [200, 200, 201, 263, 264, 599, 600, 699, 700, 999, 1000] := by decide

/-! ## ASQ -/

/-- V18, first word. -/
theorem test_adcStart_gated :
    seen (fun t => (t.out, t.convPending, t.adcEn)) (step (given State.reset 0x02000000#32)) =
      some ([.adcEn true, .adcTrig, .rsp 0#32], true, true) := by decide

/-- V20, first word: without the gate no enable event. -/
theorem test_adcStart_ungated :
    seen (fun t => (t.out, t.adcEn)) (exec .adcStart (State.resetWith Config.basic)) =
      some ([.adcTrig, .rsp 0#32], true) := by decide

/-- V19: a sample at the top of its range, unrequested. -/
theorem test_convDone_top :
    seen (fun t => (t.out, t.sample, t.convPending)) (step (given State.reset 0x810003FF#32)) =
      some ([.adcEn false], 1023, false) := by decide

/-- V21, first word: the empty port takes the byte and the command is answered in the same step. -/
theorem test_serTx_at_once :
    seen (fun t => (t.out, t.serTxe, t.hostOp)) (step (given State.reset 0x03000041#32)) =
      some ([.serByte 0x41#8, .rsp 1#32], false, .none) := by decide

/-- V21, second word: a full port leaves the command outstanding. -/
theorem test_serTx_waits :
    seen (fun t => (t.out, t.serQ, t.hostOp)) (exec (.serTx 0x42#8) { State.reset with serTxe := false }) =
      some ([], [0x42#8], .tx) := by decide

/-- V25: the line queued behind a full port, digits and count latched. -/
theorem test_serLine_queued :
    seen (fun t => (t.serQ, t.serN, t.hostOp, t.serTrig)) (exec .serLine
      { State.reset with serTxe := false, sample := 5, serTrig := true }) =
      some ([0x41#8, 0x44#8, 0x43#8, 0x3A#8, 0x20#8, 0x35#8, 0x0A#8], 7#8, .line, false) := by decide

/-- V23: a disabled line is dropped and its trigger consumed. -/
theorem test_serLine_dropped :
    seen (fun t => (t.out, t.serTrig, t.hostOp)) (exec .serLine { State.reset with serTrig := true, serEn := false }) =
      some ([.rsp 0#32], false, .none) := by decide

/-- P3: the last byte of a line of eight answers 8. -/
theorem test_serTxe_last_byte :
    seen (fun t => (t.out, t.serTxe, t.hostOp)) (exec .serTxe { inSend with serQ := [0x0A#8] }) =
      some ([.serByte 0x0A#8, .rsp 8#32], false, .none) := by decide

/-- V21, last words: with nothing outstanding the port is only marked empty. -/
theorem test_serTxe_idle :
    seen (fun t => (t.out, t.serTxe)) (exec .serTxe { State.reset with serTxe := false }) = some ([], true) := by decide

/-- V27: a byte not yet polled is overwritten. -/
theorem test_serRx_overrun :
    seen (fun t => (t.rxByte, t.rxReady)) (exec (.serRx 0x41#8)
      { State.reset with rxByte := 0x74#8, rxReady := true }) = some (0x41#8, true) := by decide

/-- V26: the toggling byte is answered 0x174 and switches transmission off. -/
theorem test_serRxpoll_toggles :
    seen (fun t => (t.out, t.serEn, t.rxReady)) (exec .serRxpoll
      { State.reset with rxByte := 0x74#8, rxReady := true }) =
      some ([.rsp 0x174#32], false, false) := by decide

/-- V26: another byte is answered and toggles nothing. -/
theorem test_serRxpoll_other_byte :
    seen (fun t => (t.out, t.serEn)) (exec .serRxpoll
      { State.reset with rxByte := 0x41#8, rxReady := true, serEn := false }) =
      some ([.rsp 0x141#32], false) := by decide

/-! ## RD -/

/-- V28: `RD RATIO` with sample 511 answers 0x257. -/
theorem test_rd_ratio :
    seen (fun t => t.out) (step (given { State.reset with sample := 511 } 0x0600000F#32)) = some [.rsp 0x257#32] := by
  decide

/-- V28: an undefined selector is answered 0x80000000. -/
theorem test_rd_undefined :
    seen (fun t => t.out) (step (given State.reset 0x060000FF#32)) = some [.rsp 0x80000000#32] := by decide

/-! ## Refusals, the host's placing of a word, the host software -/

/-- R13, V30: an event word that matches no row has no step; nor has an empty list of stimuli (R5). -/
theorem test_step_refusals :
    refusal (step (given State.reset 0x81000400#32)) = some .notStimulus ∧
      refusal (step State.reset) = some .noStimulus := by decide

/-- A placed word is the very next stimulus. -/
theorem test_withFetchWord_runs :
    seen (fun t => t.tickCnt) (step (State.reset.withFetchWord 32 0x80000001)) = some 1 := by decide

/-- X4: the four bus writes of the letter H. -/
theorem test_writeChar_bytes :
    busWrites ((writeChar LcdParams.example95 0x48#8 true).run (List.replicate 4 0#32)).1 =
      [0x4D#8, 0x49#8, 0x8D#8, 0x89#8] := by decide

/-- X6: the twenty-eight bus writes of the initialization. -/
theorem test_initializeDisplay_bytes :
    busWrites ((initializeDisplay LcdParams.example95).run (List.replicate 28 0#32)).1 =
      [0x3C#8, 0x38#8, 0x3C#8, 0x38#8, 0x3C#8, 0x38#8, 0x2C#8, 0x28#8, 0x2C#8, 0x28#8, 0x8C#8, 0x88#8, 0x0C#8, 0x08#8]
        ++ [0x8C#8, 0x88#8, 0x0C#8, 0x08#8, 0x1C#8, 0x18#8, 0x0C#8, 0x08#8, 0x6C#8, 0x68#8, 0x0C#8, 0x08#8, 0xEC#8,
          0xE8#8] := by decide

/-- A host that propagates errors. -/
def careful : LcdParams := { LcdParams.example95 with propagatesErrors := true }

/-- Screens whose Idle text is the sample's low byte, and whose Active text is empty. -/
def shortScreens : Screens where
  start := fun | .idle => .clear | .active => .home
  formattedMode := .idle
  format := fun sample => [sample.extractLsb' 0 8]
  fixedText := []

/-- R180, R181: the commands of an iteration that reads Idle and sample 0x48, with a frame (clear, one character). -/
theorem test_iteration_commands :
    let did := (iteration LcdParams.example95 shortScreens { drawn := none }).run
      ([0#32, 0#32, 0x48#32] ++ List.replicate 8 0#32 ++ [0#32, 0#32])
    did.1.filter (fun act => act != .delay 1000 && act != .delay 15000) =
      [.command .adcStart, .command (.rd 0x06#8), .command (.rd 0x0A#8)]
        ++ ([0x0C#8, 0x08#8, 0x1C#8, 0x18#8] ++ [0x4D#8, 0x49#8, 0x8D#8, 0x89#8]).map
          (fun b => .command (.twWrite 0x27#7 b))
        ++ [.command .serLine, .command .serRxpoll] ∧
      did.2 = some { drawn := some .idle } := by decide

/-- R179: the first write of a frame fails; the frame ends there, the iteration goes on, and the flag is left clear. -/
theorem test_iteration_retries :
    let did := (iteration careful shortScreens { drawn := some .idle }).run [0#32, 1#32, 2#32, 0#32, 0#32]
    did.1 = [.command .adcStart, .command (.rd 0x06#8), .command (.twWrite 0x27#7 0x0C#8), .command .serLine,
      .command .serRxpoll] ∧ did.2 = some { drawn := none } := by decide

/-- R180: each mode's frame begins in its own way: Idle's with clear (0x01), Active's with return-home (0x02). -/
theorem test_frames_begin_by_mode :
    busWrites ((drawFrame LcdParams.example95 shortScreens .active).run (List.replicate 4 0#32)).1 =
      [0x0C#8, 0x08#8, 0x2C#8, 0x28#8] ∧
    (busWrites ((drawFrame LcdParams.example95 shortScreens .idle).run (List.replicate 9 0#32)).1).take 4 =
      [0x0C#8, 0x08#8, 0x1C#8, 0x18#8] := by decide

/-- V1 is a trace in which the host follows `write_byte(0x27, 0x0C)` (R172), a `TICK` consumed while it waits. -/
theorem test_follows_writeByte :
    Follows Config.rich (.runs (writeByte 0x27#7 0x0C#8))
      [⟨0x0100270C#32, [.twStart]⟩, ⟨0x82000008#32, [.twSend 0x4E#8]⟩, ⟨0x80000000#32, []⟩,
        ⟨0x82000018#32, [.twSend 0x0C#8]⟩, ⟨0x82000028#32, [.twStop, .rsp 0#32]⟩] :=
  .accepted (by decide) rfl (.waits (by decide) rfl (.waits (by decide) rfl (.waits (by decide) rfl
    (.completed (by decide) rfl (.stops _)))))

/-- R178: two ticks with a byte received between them can be a delay of 2 ms and not one of 3 ms. -/
theorem test_isDelay_counts_ticks :
    let stretch : List Observed := [⟨0x80000001#32, []⟩, ⟨0x84000041#32, []⟩, ⟨0x80000000#32, []⟩]
    IsDelay Config.rich 2000 stretch ∧ ¬ IsDelay Config.rich 3000 stretch := by decide

/-- An edge with a command and the ready that ends the outstanding one (R94). -/
def busyEdge : PortsIn Config.rich where
  rst := false
  cmdValid := true
  cmdWord := 0x06000013#32
  tick := false
  btnRaw := false
  adcDone := false
  adcData := 0#10
  twReady := true
  twStatus := 0x28#8
  serTxeSet := false
  serRxValid := false
  serRxd := 0#8

/-- Log entry 15: the command is consumed in the order that puts the ready first, and not in the other. -/
theorem test_clockEdge_orders :
    busyEdge.presented = [.command, .twReady] ∧
      seen (fun t => t.out) (clockEdge (inPhase .wData) busyEdge ⟨[.twReady, .command], by decide⟩) =
        some [.twStart, .twStop, .rsp 0#32, .rsp 0x80000000#32] ∧
      seen (fun t => t.out) (clockEdge (inPhase .wData) busyEdge ⟨[.command, .twReady], by decide⟩) =
        some [.twStart, .twStop, .rsp 0#32] := by decide

/-- R94: with `tick` low no order of the edge has a tick in it, nor leaves out what is presented. -/
theorem test_edgeOrder_gated :
    ¬ IsEdgeOrder busyEdge [.command, .twReady, .tick] ∧ ¬ IsEdgeOrder busyEdge [.command] := by decide

/-- R94, R221: a reset edge shows no strobe, and `cmd_ready` high, though a command and a ready are presented. -/
theorem test_edgeOutputs_reset :
    edgeOutputs (inPhase .wData) { busyEdge with rst := true } ⟨[.twReady, .command], by decide⟩ =
      [levels State.reset] ∧ (levels State.reset).cmdReady = true ∧ (levels State.reset).twReq = 0#2 := by decide

/-! ## Witnesses: each shows that the hypotheses of the obligation of its name are met, clause by clause -/

theorem witness_DecodeEncodeRoundTrip : Instr.wellFormed Config.rich (.convDone 1023#16) = true := by decide

theorem witness_EncodeDecodeRoundTrip : decode Config.rich 0x81000000#32 = .instr (.convDone 0#16) := by decide

theorem witness_DecodeAgreesWithMaskAndMatch :
    Config.rich.adcBits = 10 ∧ 0x810003FF#32 &&& Row.convDone.maskWord = Row.convDone.matchWord ∧
      0x81000400#32 &&& Row.convDone.maskWord ≠ Row.convDone.matchWord := by decide

theorem witness_ConvDoneOperandAssembly : Config.rich.adcBits = 10 := by decide

theorem witness_SpecWordsDecode : Config.basic.adcBits = 10 := by decide

theorem witness_ReservedOpcodesHaveNoMeaning :
    (0x00FFFFFF#32).toNat / 2 ^ 24 = 0 ∧ (0x07000000#32).toNat / 2 ^ 24 = 0x07 ∧
      (0x7FFFFFFF#32).toNat / 2 ^ 24 = 0x7F ∧ (0x85000000#32).toNat / 2 ^ 24 = 0x85 := by decide

theorem witness_StepRunsDecodedStimulus :
    configValid (given State.reset 0x83000000#32).cfg = true ∧
      (given State.reset 0x83000000#32).stimuli = 0x83000000#32 :: [] ∧
      decode State.reset.cfg 0x83000000#32 = .instr .serTxe := by decide

theorem noCommand_spells_nothing {c : Config} {w : Word} (h : decode c w = .noCommand ∨ decode c w = .notStimulus) :
    ∀ i, decode c w ≠ .instr i := by
  intro i e
  simp [e] at h

theorem witness_IllegalHostWordAnswered_reserved :
    configValid (given State.reset 0x07000000#32).cfg = true ∧
      (given State.reset 0x07000000#32).stimuli = 0x07000000#32 :: [] ∧
      (given State.reset 0x07000000#32).hostOp = .none ∧ (0x07000000#32).msb = false ∧
      ∀ i, decode (given State.reset 0x07000000#32).cfg 0x07000000#32 ≠ .instr i :=
  ⟨by decide, rfl, rfl, by decide, noCommand_spells_nothing (.inl (by decide))⟩

theorem witness_IllegalHostWordAnswered_selector :
    configValid (given State.reset 0x06000013#32).cfg = true ∧
      (given State.reset 0x06000013#32).stimuli = 0x06000013#32 :: [] ∧
      (given State.reset 0x06000013#32).hostOp = .none ∧ (0x06000013#32).msb = false ∧
      (0x06000013#32).extractLsb' 8 24 = 0x060000#24 ∧ 0x13 ≤ ((0x06000013#32).extractLsb' 0 8).toNat := by decide

theorem witness_IllegalHostWordAnswered_busy :
    let s := given (inPhase .wStart) 0x07000000#32
    configValid s.cfg = true ∧ s.stimuli = 0x07000000#32 :: [] ∧ s.hostOp ≠ .none ∧ (0x07000000#32).msb = false ∧
      ∀ i, decode s.cfg 0x07000000#32 ≠ .instr i :=
  ⟨by decide, rfl, by decide, by decide, noCommand_spells_nothing (.inl (by decide))⟩

theorem witness_IllegalEventWordRefused :
    configValid (given State.reset 0x81000400#32).cfg = true ∧
      (given State.reset 0x81000400#32).stimuli = 0x81000400#32 :: [] ∧ (0x81000400#32).msb = true ∧
      ∀ i, decode (given State.reset 0x81000400#32).cfg 0x81000400#32 ≠ .instr i :=
  ⟨by decide, rfl, by decide, noCommand_spells_nothing (.inr (by decide))⟩

theorem witness_AdmissionOfStimuli :
    Instr.wellFormed (inPhase .wStart).cfg (.convDone 1023#16) = true ∧ (Instr.convDone 1023#16).isEvent = true ∧
      Instr.wellFormed State.reset.cfg (.rd 0#8) = true ∧ (Instr.rd 0#8).isEvent = false ∧
      State.reset.hostOp = .none ∧ (inPhase .wStart).hostOp ≠ .none := by decide

/-- At the bound of R8 a configuration is not refused, and one past it, or with a zero window, it is. -/
theorem witness_UnsafeConfigurationRefused :
    refusal (step (given (State.resetWith { Config.rich with debounceWindow := 65534, serThresh := 65534 })
      0x80000000#32)) = none ∧
    refusal (step (State.resetWith { Config.rich with debounceWindow := 65535 })) = some .badConfig ∧
    refusal (step (State.resetWith { Config.rich with debounceWindow := 0 })) = some .badConfig := by decide

theorem witness_StepConsumesOneStimulus : ∃ t, step (given State.reset 0x80000000#32) = .next t := ⟨_, rfl⟩

theorem witness_TwWriteAccepted : State.reset.hostOp = .none := rfl

theorem witness_ReadyAfterStart : (inPhase .wStart).twPhase = .wStart := rfl

theorem witness_ReadyAfterAddress : (inPhase .wAddr).twPhase = .wAddr := rfl

theorem witness_ReadyAfterData : (inPhase .wData).twPhase = .wData := rfl

theorem witness_ReadyWhileIdleIgnored : State.reset.twPhase = .idle := rfl

theorem witness_AddressByteLayout :
    (inPhase .wStart).twPhase = .wStart ∧ (inPhase .wStart).cfg.twWriteBit = 0#1 ∧ (inPhase .wStart).twAddr = 0x27#7 ∧
      ({ inPhase .wStart with twAddr := 0x7F#7 } : State).twAddr = 0x7F#7 := by decide

theorem witness_AnsweredWriteSucceeds :
    let s := { State.reset with stimuli :=
      [encode (.twWrite 0x27#7 0x0C#8), encode (.twReady 0x08#8), encode (.twReady 0x18#8), encode (.twReady 0x28#8)] }
    configValid s.cfg = true ∧ s.hostOp = .none ∧
      s.stimuli = encode (.twWrite 0x27#7 0x0C#8) :: encode (.twReady s.cfg.stStart) ::
        encode (.twReady s.cfg.stAddrAck) :: encode (.twReady s.cfg.stDataAck) :: [] := by decide

theorem witness_FailedWriteEndsAtOnce :
    (inPhase .wData).hostOp = .tw ∧ ∃ t, exec (.twReady 0x30#8) (inPhase .wData) = .next t ∧
      t.out = (inPhase .wData).out ++ [.rsp 3#32] ∧ OutEvent.rsp 3#32 ∈ [OutEvent.rsp 3#32] ∧ 3#32 ≠ 0#32 :=
  ⟨rfl, _, rfl, rfl, by decide, by decide⟩

theorem witness_UnansweredPhaseTimesOut :
    let s := { inPhase .wStart with
      cfg := timeout3, stimuli := [encode (.tick false), encode (.tick true), encode (.tick false)] }
    configValid s.cfg = true ∧ s.cfg.twTimeout = some 3 ∧ 3 < 2 ^ s.cfg.cntW ∧ s.twPhase ≠ .idle ∧ s.twWait = 0 ∧
      s.stimuli = [false, true].map (fun raw => encode (.tick raw)) ++ [encode (.tick false)] ∧
      s.stimuli = [false, true, false].map (fun raw => encode (.tick raw)) ++ [] ∧
      [false, true].length < 3 ∧ [false, true, false].length = 3 := by decide

theorem portInv_inPhase {p : TwPhase} (h : p ≠ .idle) : PortInv (inPhase p) :=
  ⟨by simp [inPhase, h], by simp [inPhase, sending, State.reset, State.resetWith],
    by simp [inPhase, sending], by simp [inPhase, State.reset, State.resetWith],
    by simp [inPhase, State.reset, State.resetWith]⟩

theorem portInv_inSend : PortInv inSend :=
  ⟨by simp [inSend, State.reset, State.resetWith], by simp [inSend, sending], fun _ => rfl, by decide, by decide⟩

theorem witness_UnansweredWriteHangs :
    PortInv (inPhase .wAddr) ∧ (inPhase .wAddr).cfg.twTimeout = none ∧ (inPhase .wAddr).twPhase ≠ .idle ∧
      (∀ status, Instr.tick true ≠ .twReady status) ∧ ∃ t, exec (.tick true) (inPhase .wAddr) = .next t :=
  ⟨portInv_inPhase (by decide), rfl, by decide, by simp, _, rfl⟩

/-- One tick short of a boundary, with a sample of 1 before it. -/
def beforeBoundary : State := { State.resetWith window2 with tickCnt := 2, rawSample := true, prevRaw := true }

theorem witness_DebouncedChangesOnlyAtBoundary :
    DteInv (given beforeBoundary 0x80000001#32) ∧
      ∃ t, step (given beforeBoundary 0x80000001#32) = .next t ∧
        t.debounced ≠ (given beforeBoundary 0x80000001#32).debounced ∧ t.debounced = true :=
  ⟨⟨rfl, rfl, rfl⟩, _, rfl, by decide, by decide⟩

theorem witness_ModeTogglesPerReleasedWindow :
    configValid beforeBoundary.cfg = true ∧ beforeBoundary.cfg.featMode = true := by decide

theorem witness_WindowBoundariesAreEvenlySpaced :
    let raws := [true, false, true]
    let s := { State.resetWith window2 with stimuli := raws.map (fun raw => encode (.tick raw)) ++ [] }
    configValid s.cfg = true ∧ s.tickCnt = 0 ∧ s.stimuli = raws.map (fun raw => encode (.tick raw)) ++ [] ∧
      raws.length = s.cfg.debounceWindow + 1 := by decide

/-- A configuration whose periods are short: the ratio line's is 2 for every sample. -/
def quick : Config := { window2 with ratioScale := 0, ratioOffset := 1, serThresh := 1 }

/-- The button held in that configuration, with ticks presented. -/
def quickHolding (modeCnt k : Nat) : State :=
  { holding modeCnt with cfg := quick, stimuli := List.replicate k (encode (.tick true)) }

theorem rangeInv_quickHolding {m k : Nat} (h : m < 2 ^ 16) : RangeInv (quickHolding m k) :=
  ⟨show configValid quick = true by decide, by simp [quickHolding, holding, State.resetWith], h,
    by simp [quickHolding, holding, State.resetWith], by simp [quickHolding, holding, State.resetWith],
    by simp [quickHolding, holding, State.resetWith], by simp [quickHolding, holding, State.resetWith]⟩

theorem witness_RatioLineTogglePeriod :
    RangeInv (quickHolding 1 2) ∧ Held (quickHolding 1 2) ∧ (quickHolding 1 2).cfg.featRatio = true ∧
      mode (quickHolding 1 2) = .active ∧ (quickHolding 1 2).ratioCnt = 0 ∧
      (quickHolding 1 2).stimuli = List.replicate 2 (encode (.tick true)) ++ [] ∧ 2 = ratio (quickHolding 1 2) + 1 :=
  ⟨rangeInv_quickHolding (by decide), ⟨rfl, rfl, rfl, rfl⟩, rfl, rfl, rfl, rfl, by decide⟩

theorem witness_SerialTriggerPeriod :
    RangeInv (quickHolding 0 2) ∧ Held (quickHolding 0 2) ∧ (quickHolding 0 2).cfg.featHeartbeat = true ∧
      mode (quickHolding 0 2) = .idle ∧ (quickHolding 0 2).serCnt = 0 ∧ (quickHolding 0 2).serTrig = false ∧
      (quickHolding 0 2).stimuli = List.replicate 2 (encode (.tick true)) ++ [] ∧
      2 = (quickHolding 0 2).cfg.serThresh + 1 :=
  ⟨rangeInv_quickHolding (by decide), ⟨rfl, rfl, rfl, rfl⟩, rfl, rfl, rfl, rfl, rfl, by decide⟩

theorem witness_TimingEngineIsolated :
    (inPhase .wData).cfg = State.reset.cfg ∧ (inPhase .wData).sample = State.reset.sample ∧
      SameDte State.reset (inPhase .wData) :=
  ⟨rfl, rfl, rfl, rfl, rfl, rfl, rfl, rfl, rfl, rfl, rfl, rfl, rfl⟩

theorem witness_AdcStartAccepted :
    State.reset.hostOp = .none ∧ State.reset.cfg.featAdcGate = true ∧ (State.resetWith Config.basic).hostOp = .none ∧
      (State.resetWith Config.basic).cfg.featAdcGate = false := by decide

theorem witness_ConvDoneCaptured : (1023#16).toNat < 2 ^ State.reset.cfg.adcBits := by decide

theorem witness_OnlyAdcStartTriggers :
    (∃ t, exec .adcStart State.reset = .next t) ∧ ∃ t, exec (.tick true) State.reset = .next t := ⟨⟨_, rfl⟩, _, rfl⟩

theorem witness_SerTxAccepted :
    State.reset.hostOp = .none ∧ State.reset.serTxe = true ∧
      ({ State.reset with serTxe := false } : State).hostOp = .none := by decide

theorem witness_SerTxeStep :
    sending inSend ∧ inSend.serQ = 0x32#8 :: [0x0A#8] ∧ ¬ sending State.reset ∧ State.reset.serQ = [] := by decide

theorem witness_SerLineAccepted :
    let s := { State.reset with serTrig := true }
    s.hostOp = .none ∧ s.serTrig = true ∧ s.serEn = true ∧ s.modeCnt % 2 = 0 := by decide

theorem witness_OutstandingSendDrains :
    let s := { inSend with stimuli := [encode .serTxe, encode .serTxe] }
    configValid s.cfg = true ∧ sending s ∧ s.serQ ≠ [] ∧
      s.stimuli = List.replicate s.serQ.length (encode .serTxe) ++ [] := by decide

theorem witness_UnansweredSendHangs :
    PortInv inSend ∧ sending inSend ∧ Instr.tick true ≠ .serTxe ∧ ∃ t, exec (.tick true) inSend = .next t :=
  ⟨portInv_inSend, by decide, by decide, _, rfl⟩

theorem witness_ReceivePollAccepted :
    State.reset.hostOp = .none ∧ ({ State.reset with rxReady := true } : State).hostOp = .none := by decide

theorem witness_ReadOfDefinedSelector :
    State.reset.hostOp = .none ∧ (0x12#8, 0) ∈ [(0x11#8, State.reset.serTxe.toNat), (0x12#8, State.reset.rxReady.toNat)] ∧
      State.reset.rxReady.toNat < 2 ^ 31 := by decide

theorem witness_ReadOfUndefinedSelector :
    State.reset.hostOp = .none ∧ 0x13 ≤ (0x13#8).toNat ∧ 0x13 ≤ (0xFF#8).toNat := by decide

theorem witness_ReadIsRepeatable : ∃ t, exec (.rd 0x13#8) State.reset = .next t := ⟨_, rfl⟩

theorem witness_ResetMeetsInvariants : configValid Config.rich = true := by decide

theorem witness_StepKeepsRanges :
    RangeInv (quickHolding 65535 2) ∧ ∃ t, step (quickHolding 65535 2) = .next t :=
  ⟨rangeInv_quickHolding (by decide), _, rfl⟩

theorem witness_UnreliableWindowForcesFlagFalse :
    (given beforeBoundary 0x80000000#32).debounced =
      ((given beforeBoundary 0x80000000#32).reliable && (given beforeBoundary 0x80000000#32).rawSample) ∧
      ∃ t, step (given beforeBoundary 0x80000000#32) = .next t ∧ t.reliable = false := ⟨rfl, _, rfl, by decide⟩

theorem witness_StepKeepsTimingInvariant :
    DteInv (given beforeBoundary 0x80000001#32) ∧ ∃ t, step (given beforeBoundary 0x80000001#32) = .next t :=
  ⟨⟨rfl, rfl, rfl⟩, _, rfl⟩

theorem witness_StepKeepsFeatureInvariant :
    FeatureInv (given (State.resetWith Config.basic) 0x80000001#32) ∧ FeatureInv (given State.reset 0x02000000#32) ∧
      ∃ t, step (given State.reset 0x02000000#32) = .next t :=
  ⟨⟨fun _ => ⟨rfl, rfl⟩, fun _ => ⟨rfl, rfl⟩, fun _ => ⟨rfl, rfl⟩, (by decide), fun _ => rfl⟩,
    ⟨fun _ => ⟨rfl, rfl⟩, fun _ => ⟨rfl, rfl⟩, fun _ => ⟨rfl, rfl⟩, fun _ => rfl, (by decide)⟩, _, rfl⟩

/-- A send outstanding with one `SER_TXE` presented. -/
def sendingStep : State := given inSend 0x83000000#32

theorem witness_StepKeepsPortInvariant :
    RangeInv sendingStep ∧ PortInv sendingStep ∧ ∃ t, step sendingStep = .next t :=
  ⟨⟨by decide, by decide, by decide, by decide, by decide, by decide, by decide⟩,
    ⟨by decide, by decide, fun _ => rfl, by decide, by decide⟩, _, rfl⟩

theorem witness_BusPhasesStrictlySequential :
    let s := given (inPhase .wStart) 0x82000008#32
    PortInv s ∧ busTrace s.out = some s.twPhase ∧ ∃ t, step s = .next t :=
  ⟨⟨by decide, by decide, by decide, by decide, by decide⟩, by decide, _, rfl⟩

theorem witness_EveryCommandAnsweredOnce :
    PortInv sendingStep ∧ (∃ t, step sendingStep = .next t) ∧ sendingStep.stimuli = 0x83000000#32 :: [] ∧
      (0x83000000#32).msb = true :=
  ⟨⟨by decide, by decide, fun _ => rfl, by decide, by decide⟩, ⟨_, rfl⟩, rfl, by decide⟩

theorem witness_InterruptsTouchNoPort :
    (∃ t, exec (.tick true) State.reset = .next t) ∧ ∃ t, exec (.convDone 1023#16) State.reset = .next t :=
  ⟨⟨_, rfl⟩, _, rfl⟩

theorem witness_FieldsChangeOnlyByTheirOwners : ∃ t, exec (.tick true) State.reset = .next t := ⟨_, rfl⟩

/-- No input of an edge is high. -/
def quietEdge : PortsIn Config.rich := { busyEdge with cmdValid := false, twReady := false }

theorem witness_PortsShowTheState :
    State.reset.hostOp = .none ∧ configValid State.reset.cfg = true ∧ State.reset.cfg.adcBits ≤ 16 ∧
      ({ quietEdge with rst := true } : PortsIn Config.rich).rst = true ∧
      IsEdgeOrder { quietEdge with rst := true } [] ∧ quietEdge.rst = false ∧ IsEdgeOrder quietEdge [] ∧
      quietEdge.presented = [] ∧ ({ quietEdge with cmdValid := true } : PortsIn Config.rich).presented = [.command] ∧
      quietEdge.cmdWord.msb = false ∧ decode State.reset.cfg quietEdge.cmdWord = .instr (.rd 0x13#8) ∧
      ({ quietEdge with tick := true } : PortsIn Config.rich).presented = [.tick] ∧
      ({ quietEdge with adcDone := true } : PortsIn Config.rich).presented = [.adcDone] ∧
      ({ quietEdge with twReady := true } : PortsIn Config.rich).presented = [.twReady] ∧
      ({ quietEdge with serTxeSet := true } : PortsIn Config.rich).presented = [.serTxe] ∧
      ({ quietEdge with serRxValid := true } : PortsIn Config.rich).presented = [.serRx] := by decide

theorem witness_WriteCharIsFourBusWrites :
    LcdParams.example95.propagatesErrors = false ∧ careful.propagatesErrors = true ∧
      4 ≤ [0#32, 0#32, 0#32, 3#32].length ∧ (∀ r ∈ [0#32, 0#32, 0#32, 3#32].take 3, r = 0#32) ∧
      [0#32, 0#32, 0#32, 3#32][3]? = some 3#32 ∧ 3#32 ≠ 0#32 :=
  ⟨rfl, rfl, by decide, by simp, rfl, by decide⟩

theorem witness_WriteStringBusWrites :
    let text := List.replicate 17 0x41#8
    let answers := List.replicate 72 0#32
    0 < careful.cols ∧ 4 * (text.length + (text.length - 1) / careful.cols) ≤ answers.length ∧
      ∀ r ∈ answers, r = 0#32 :=
  ⟨by decide, by decide, fun _ h => List.eq_of_mem_replicate h⟩

end Sys2Proof.Tests
end

section
/-! Proofs of the scope obligations (00_scope.md): what a step consumes and keeps (R5, R7), which configurations are
refused (R7, R8, R150), and the invariants at reset (R52). -/

namespace Sys2Proof.Machine

/-! ## What a stimulus that is admitted does -/

/-- The state an admitted stimulus leaves, admission aside: `exec_next` ties it to `exec`. -/
def effect : Instr → State → State
  | .twWrite dev byte, s => startWrite dev byte s
  | .adcStart, s => startConversion s
  | .serTx byte, s => beginSend .tx [byte] s
  | .serLine, s => sendLine s
  | .serRxpoll, s => pollReceive s
  | .rd sel, s => s.respond (readResponse sel s)
  | .tick raw, s => tickStep raw s
  | .convDone sample, s => captureSample sample.toNat s
  | .twReady status, s => ready status s
  | .serTxe, s => pump { s with serTxe := true }
  | .serRx byte, s => { s with rxByte := byte, rxReady := true }

/-- A host command goes through the command port (R82). -/
theorem exec_command {i : Instr} (h : i.isEvent = false) (s : State) : exec i s = whenReady s (effect i s) := by
  cases i <;> cases h <;> rfl

/-- An event is admitted in every state, unless its sample is out of range (R82, R91). -/
theorem exec_event {i : Instr} (h : i.isEvent = true) (s : State) :
    exec i s = if i.wellFormed s.cfg then .next (effect i s) else .refused .notStimulus := by
  cases i
  case convDone sample => simp [exec, execConvDone, effect, Instr.wellFormed]
  all_goals cases h <;> rfl

/-- A stimulus that is admitted leaves its effect, a command having found the port ready. -/
theorem exec_next {i : Instr} {s t : State} (h : exec i s = .next t) :
    t = effect i s ∧ (i.isEvent = false → s.hostOp = .none) := by
  cases hi : i.isEvent
  · obtain ⟨hidle, ht⟩ := whenReady_next (exec_command hi s ▸ h)
    exact ⟨ht, fun _ => hidle⟩
  · rw [exec_event hi] at h
    split at h
    · cases h
      exact ⟨rfl, by simp⟩
    · cases h

theorem whenReady_refused {s t : State} {r : Refusal} (h : whenReady s t = .refused r) : r = .hostBusy := by
  unfold whenReady at h
  split at h <;> cases h
  rfl

/-- The two reasons for which `exec` refuses a stimulus (R82, R91). -/
theorem exec_refused {i : Instr} {s : State} {r : Refusal} (h : exec i s = .refused r) :
    r = .hostBusy ∨ r = .notStimulus := by
  cases hi : i.isEvent
  · exact .inl (whenReady_refused (exec_command hi s ▸ h))
  · rw [exec_event hi] at h
    split at h <;> cases h
    exact .inr rfl

/-! ## The parameters and the stimuli are not written by any effect -/

@[simp] theorem beginSend_cfg (op : HostOp) (bytes : List Byte) (s : State) : (beginSend op bytes s).cfg = s.cfg := by
  simp [beginSend]

@[simp] theorem beginSend_stimuli (op : HostOp) (bytes : List Byte) (s : State) :
    (beginSend op bytes s).stimuli = s.stimuli := by
  simp [beginSend]

@[simp] theorem sendLine_cfg (s : State) : (sendLine s).cfg = s.cfg := by
  unfold sendLine
  split <;> simp

@[simp] theorem sendLine_stimuli (s : State) : (sendLine s).stimuli = s.stimuli := by
  unfold sendLine
  split <;> simp

@[simp] theorem pollReceive_cfg (s : State) : (pollReceive s).cfg = s.cfg := by
  unfold pollReceive
  split <;> simp

@[simp] theorem pollReceive_stimuli (s : State) : (pollReceive s).stimuli = s.stimuli := by
  unfold pollReceive
  split <;> simp

@[simp] theorem effect_cfg (i : Instr) (s : State) : (effect i s).cfg = s.cfg := by
  cases i <;> simp [effect, startWrite, startConversion, tickStep, captureSample]

@[simp] theorem effect_stimuli (i : Instr) (s : State) : (effect i s).stimuli = s.stimuli := by
  cases i <;> simp [effect, startWrite, startConversion, tickStep, captureSample]

/-! ## The step -/

theorem step_of_instr {s : State} {w : Word} {rest : List Word} {i : Instr} (hc : configValid s.cfg = true)
    (hs : s.stimuli = w :: rest) (hd : decode s.cfg w = .instr i) : step s = exec i { s with stimuli := rest } := by
  simp [step, fetch_instr hc hs hd]

/-- A step that happens is an effect, or the answer to a host word that spells no command, in the state in which the
oldest word has been consumed. -/
theorem step_next_effect {s t : State} (h : step s = .next t) :
    ∃ w rest, s.stimuli = w :: rest ∧
      ((∃ i, t = effect i { s with stimuli := rest }) ∨ t = State.respond { s with stimuli := rest } notExecuted) := by
  obtain ⟨-, w, rest, hs, ⟨i, -, hx⟩ | ⟨-, hx⟩⟩ := step_next h
  · exact ⟨w, rest, hs, .inl ⟨i, (exec_next hx).1⟩⟩
  · exact ⟨w, rest, hs, .inr (whenReady_next hx).2⟩

/-- A fetch under a valid configuration refuses for want of a stimulus, or for a word that is none (log entry 19). -/
theorem fetch_refuse {s : State} {r : Refusal} (hc : configValid s.cfg = true) (h : fetch s = .refuse r) :
    r = .noStimulus ∨ r = .notStimulus := by
  unfold fetch at h
  rw [if_pos hc] at h
  split at h
  · cases h
    exact .inl rfl
  · split at h <;> cases h
    exact .inr rfl

/-- The refusal `badConfig` is the configuration's, whatever else the state holds (log entry 8). -/
theorem step_badConfig_iff (s : State) : step s = .refused .badConfig ↔ configValid s.cfg = false := by
  constructor
  · intro h
    by_contra hv
    have hc : configValid s.cfg = true := by simpa using hv
    unfold step at h
    split at h
    · rcases exec_refused h with hr | hr <;> cases hr
    · cases whenReady_refused h
    next hf =>
      cases h
      rcases fetch_refuse hc hf with hr | hr <;> cases hr
  · intro h
    simp [step, fetch, h]

/-! ## The configurations that are refused -/

/-- `maxLine` is the length of the line of the largest sample (R46). -/
theorem length_statusLine_top (c : Config) : (statusLine c (2 ^ c.adcBits - 1)).length = maxLine c := by
  simp [statusLine, maxLine]
  omega

/-- The bound on `maxLine` bounds the line of every sample (R150): the largest sample's line is a longest one. -/
theorem maxLine_gt_iff (c : Config) (b : Nat) :
    b < maxLine c ↔ ∃ n, n < 2 ^ c.adcBits ∧ b < (statusLine c n).length := by
  constructor
  · intro h
    exact ⟨2 ^ c.adcBits - 1, Nat.sub_lt (Nat.two_pow_pos _) one_pos, (length_statusLine_top c).symm ▸ h⟩
  · rintro ⟨n, hn, hb⟩
    exact hb.trans_le (statusLine_le_maxLine hn)

/-- The timeout's type, "none or a positive number" (R7). -/
theorem timeout_all_pos_eq_false (o : Option Nat) : o.all (fun n => decide (1 ≤ n)) = false ↔ o = some 0 := by
  cases o <;> simp

/-- The constraints of R7, R8 and R150, in the order `configValid` tests them. -/
theorem configValid_eq_false_iff (c : Config) :
    configValid c = false ↔
      c.debounceWindow = 0 ∨ 2 ^ c.cntW < c.debounceWindow + 2 ∨ 2 ^ c.cntW < c.serThresh + 2 ∨ c.ratioDiv = 0 ∨
        2 ^ c.cntW < ratioOf c (2 ^ c.adcBits - 1) + 2 ∨ c.twTimeout = some 0 ∨ c.newline = [] ∨ 255 < maxLine c := by
  simp only [configValid, Bool.and_eq_false_iff, decide_eq_false_iff_not, not_le, Nat.lt_one_iff,
    timeout_all_pos_eq_false, Bool.not_eq_false', List.isEmpty_iff, or_assoc]

end Sys2Proof.Machine

namespace Sys2Proof.Safety

open Sys2Proof.Machine

/-! ## The invariants at reset -/

theorem rangeInv_resetWith {c : Config} (h : configValid c = true) : RangeInv (State.resetWith c) where
  config := h
  tickCnt := Nat.zero_le _
  modeCnt := Nat.two_pow_pos _
  ratioCnt := Nat.two_pow_pos _
  serCnt := Nat.two_pow_pos _
  twWait := Nat.two_pow_pos _
  sample := Nat.two_pow_pos _

theorem dteInv_resetWith (c : Config) : DteInv (State.resetWith c) := ⟨rfl, rfl, rfl⟩

theorem featureInv_resetWith (c : Config) : FeatureInv (State.resetWith c) where
  mode _ := ⟨rfl, rfl⟩
  ratio _ := ⟨rfl, rfl⟩
  heartbeat _ := ⟨rfl, rfl⟩
  gated h := congrArg not h
  ungated h := congrArg not h

theorem portInv_resetWith (c : Config) : PortInv (State.resetWith c) where
  bus := by simp [State.resetWith]
  queue := by simp [State.resetWith]
  waiting := by simp [State.resetWith]
  bound := Nat.zero_le _
  counted := Nat.zero_le _

theorem inv_resetWith {c : Config} (h : configValid c = true) : Inv (State.resetWith c) :=
  ⟨rangeInv_resetWith h, dteInv_resetWith c, featureInv_resetWith c, portInv_resetWith c⟩

end Sys2Proof.Safety

namespace Sys2Proof.Proofs

open Sys2Proof.Machine Sys2Proof.Safety

/-! ## The obligations -/

/-- Settles O14: the word is taken off before the effect, and no effect writes the parameters or the stimuli. -/
theorem stepConsumesOneStimulus : Obligations.StepConsumesOneStimulus := by
  unfold Obligations.StepConsumesOneStimulus
  intro s t h
  obtain ⟨w, rest, hs, ⟨i, rfl⟩ | rfl⟩ := step_next_effect h
  · exact ⟨effect_cfg i _, w, by rw [hs, effect_stimuli]⟩
  · exact ⟨rfl, w, hs⟩

/-- Settles O15: only an invalid configuration is refused as one, and `maxLine` stands for the longest line. -/
theorem unsafeConfigurationRefused : Obligations.UnsafeConfigurationRefused := by
  unfold Obligations.UnsafeConfigurationRefused
  intro s
  have hratio : ratioOf s.cfg (2 ^ s.cfg.adcBits - 1) =
      s.cfg.ratioOffset + (2 ^ s.cfg.adcBits - 1) * s.cfg.ratioScale / s.cfg.ratioDiv := Nat.add_comm _ _
  rw [step_badConfig_iff, configValid_eq_false_iff, maxLine_gt_iff, hratio]
  unfold statusLine
  tauto

/-- Settles O10, by the fetch of a word that decodes to a term. -/
theorem stepRunsDecodedStimulus : Obligations.StepRunsDecodedStimulus := by
  unfold Obligations.StepRunsDecodedStimulus
  intro s w rest i hc hs hd
  exact step_of_instr hc hs hd

/-- Settles O48, invariant by invariant; the two named configurations are evaluated. -/
theorem resetMeetsInvariants : Obligations.ResetMeetsInvariants := by
  unfold Obligations.ResetMeetsInvariants
  exact ⟨fun _ => inv_resetWith, by decide, by decide, rfl⟩

end Sys2Proof.Proofs
end

section
/-! Proofs of the state obligations (10_state.md): the reset table (R52), and what every step keeps of the ranges
(R24, R26, R40), the timing engine (R23, R34, R128), the features that are off (R27, R29, R30, R42), and the agreement
of command port, bus and serial queue (R46 to R48, R147). -/

namespace Sys2Proof.Machine

open Sys2Proof.Safety

/-! ## What every admitted stimulus and every answer keep, every step keeps -/

/-- A stimulus that is admitted is well-formed: only a sample can be out of range, and then it is refused (R91). -/
theorem wellFormed_of_exec_next {i : Instr} {s t : State} (h : exec i s = .next t) : i.wellFormed s.cfg = true := by
  cases i
  case convDone sample =>
    by_contra hw
    rw [exec_event rfl, if_neg hw] at h
    cases h
  all_goals rfl

/-- The step's induction: what does not depend on the stimuli waiting, and is kept by the effect of every admitted
stimulus and by the answer to a word that spells no command, is kept by every step. -/
theorem step_keeps {P : State → Prop} (consumed : ∀ s rest, P s → P { s with stimuli := rest })
    (effects : ∀ i s, i.wellFormed s.cfg = true → (i.isEvent = false → s.hostOp = .none) → P s → P (effect i s))
    (answers : ∀ s w, s.hostOp = .none → P s → P (s.respond w)) {s t : State} (hs : P s) (h : step s = .next t) :
    P t := by
  obtain ⟨-, w, rest, -, ⟨i, -, hx⟩ | ⟨-, hx⟩⟩ := step_next h
  · obtain ⟨rfl, hidle⟩ := exec_next hx
    exact effects i _ (wellFormed_of_exec_next hx) hidle (consumed s rest hs)
  · obtain ⟨hidle, rfl⟩ := whenReady_next hx
    exact answers _ _ hidle (consumed s rest hs)

/-! ## What the serial commands leave alone -/

/-- A send leaves alone everything but the queue, its length, the port's mirror, the trace and the host port. -/
theorem beginSend_keeps {α : Type} (f : State → α) (op : HostOp) (bytes : List Byte) (s : State)
    (h : ∀ (t : State) q n e o p, f { t with serQ := q, serN := n, serTxe := e, out := o, hostOp := p } = f t) :
    f (beginSend op bytes s) = f s :=
  (pump_keeps f _ fun t q e o p => h t q t.serN e o p).trans (h s bytes _ s.serTxe s.out op)

/-- `SER_LINE` leaves alone what a send does, but that it consumes the trigger (R149). -/
theorem sendLine_keeps {α : Type} (f : State → α) (s : State)
    (h : ∀ (t : State) q n e o p, f { t with serQ := q, serN := n, serTxe := e, out := o, hostOp := p } = f t) :
    f (sendLine s) = f { s with serTrig := false } := by
  unfold sendLine
  split
  · exact beginSend_keeps f _ _ _ h
  · exact h { s with serTrig := false } _ _ _ _ _

/-- `SER_RXPOLL` leaves alone everything but the received byte's flag, the enable flag, the trace and the host port. -/
theorem pollReceive_keeps {α : Type} (f : State → α) (s : State)
    (h : ∀ (t : State) r e o p, f { t with rxReady := r, serEn := e, out := o, hostOp := p } = f t) :
    f (pollReceive s) = f s := by
  unfold pollReceive
  split
  · exact h s _ _ _ _
  · exact h s s.rxReady s.serEn _ _

@[simp] theorem beginSend_sample (op : HostOp) (bytes : List Byte) (s : State) :
    (beginSend op bytes s).sample = s.sample := beginSend_keeps (·.sample) op bytes s (fun _ _ _ _ _ _ => rfl)
@[simp] theorem beginSend_twWait (op : HostOp) (bytes : List Byte) (s : State) :
    (beginSend op bytes s).twWait = s.twWait := beginSend_keeps (·.twWait) op bytes s (fun _ _ _ _ _ _ => rfl)
@[simp] theorem beginSend_adcEn (op : HostOp) (bytes : List Byte) (s : State) :
    (beginSend op bytes s).adcEn = s.adcEn := beginSend_keeps (·.adcEn) op bytes s (fun _ _ _ _ _ _ => rfl)
@[simp] theorem beginSend_convPending (op : HostOp) (bytes : List Byte) (s : State) :
    (beginSend op bytes s).convPending = s.convPending :=
  beginSend_keeps (·.convPending) op bytes s (fun _ _ _ _ _ _ => rfl)

@[simp] theorem sendLine_sample (s : State) : (sendLine s).sample = s.sample :=
  sendLine_keeps (·.sample) s (fun _ _ _ _ _ _ => rfl)
@[simp] theorem sendLine_twWait (s : State) : (sendLine s).twWait = s.twWait :=
  sendLine_keeps (·.twWait) s (fun _ _ _ _ _ _ => rfl)
@[simp] theorem sendLine_adcEn (s : State) : (sendLine s).adcEn = s.adcEn :=
  sendLine_keeps (·.adcEn) s (fun _ _ _ _ _ _ => rfl)
@[simp] theorem sendLine_convPending (s : State) : (sendLine s).convPending = s.convPending :=
  sendLine_keeps (·.convPending) s (fun _ _ _ _ _ _ => rfl)

@[simp] theorem pollReceive_sample (s : State) : (pollReceive s).sample = s.sample :=
  pollReceive_keeps (·.sample) s (fun _ _ _ _ _ => rfl)
@[simp] theorem pollReceive_twWait (s : State) : (pollReceive s).twWait = s.twWait :=
  pollReceive_keeps (·.twWait) s (fun _ _ _ _ _ => rfl)
@[simp] theorem pollReceive_adcEn (s : State) : (pollReceive s).adcEn = s.adcEn :=
  pollReceive_keeps (·.adcEn) s (fun _ _ _ _ _ => rfl)
@[simp] theorem pollReceive_convPending (s : State) : (pollReceive s).convPending = s.convPending :=
  pollReceive_keeps (·.convPending) s (fun _ _ _ _ _ => rfl)

/-! ## The timing engine's fields, outside a tick -/

theorem beginSend_sameDte (op : HostOp) (bytes : List Byte) (s : State) : SameDte s (beginSend op bytes s) := by
  constructor <;> simp [beginSend]

theorem sendLine_sameDte (s : State) : SameDte { s with serTrig := false } (sendLine s) := by
  unfold sendLine
  split
  · exact beginSend_sameDte ..
  · constructor <;> rfl

theorem pollReceive_sameDte (s : State) : SameDte s (pollReceive s) := by
  unfold pollReceive
  split <;> constructor <;> rfl

/-- A tick aside, no stimulus writes the DTE group, but that `SER_LINE` consumes the trigger (R149, R201). -/
theorem effect_dte (i : Instr) (s : State) :
    (∃ raw, i = .tick raw) ∨
      ∃ trig, (trig = true → s.serTrig = true) ∧ SameDte { s with serTrig := trig } (effect i s) := by
  cases i with
  | tick raw => exact .inl ⟨raw, rfl⟩
  | serLine => exact .inr ⟨false, nofun, sendLine_sameDte s⟩
  | serTx byte => exact .inr ⟨_, id, beginSend_sameDte _ _ s⟩
  | serRxpoll => exact .inr ⟨_, id, pollReceive_sameDte s⟩
  | _ => exact .inr ⟨_, id, by constructor <;> simp [effect, startWrite, startConversion, captureSample]⟩

/-! ## What a stimulus can do to the fields with a rule of their own -/

theorem driveAdcEnable_adcEn (v : Bool) (s : State) :
    (driveAdcEnable v s).adcEn = if s.cfg.featAdcGate then v else s.adcEn := by
  unfold driveAdcEnable
  split <;> rfl

/-- The sampler's enable line and the outstanding conversion move together, or not at all (R141, R142, R143). -/
theorem effect_adc (i : Instr) (s : State) :
    ((effect i s).adcEn = s.adcEn ∧ (effect i s).convPending = s.convPending) ∨
      ∃ v, (effect i s).adcEn = (if s.cfg.featAdcGate then v else s.adcEn) ∧ (effect i s).convPending = v := by
  cases i with
  | adcStart => exact .inr ⟨true, driveAdcEnable_adcEn true s, rfl⟩
  | convDone sample =>
    exact .inr ⟨false, driveAdcEnable_adcEn false _, driveAdcEnable_convPending false _⟩
  | _ => exact .inl (by simp [effect, startWrite, tickStep])

theorem effect_sample_lt {i : Instr} {s : State} (hw : i.wellFormed s.cfg = true) (h : s.sample < 2 ^ s.cfg.adcBits) :
    (effect i s).sample < 2 ^ s.cfg.adcBits := by
  cases i with
  | convDone sample => simpa [effect, captureSample, Instr.wellFormed] using hw
  | _ => simpa [effect, startWrite, startConversion, tickStep] using h

theorem ready_twWait_lt {status : Byte} {s : State} (h : s.twWait < 2 ^ s.cfg.cntW) :
    (ready status s).twWait < 2 ^ s.cfg.cntW := by
  rcases ready_cases status s with ⟨-, k⟩ | ⟨-, -, k⟩ | ⟨-, -, k⟩ | ⟨-, -, k⟩ | ⟨-, e, -, k⟩ <;> rw [k]
  · exact h
  · exact Nat.two_pow_pos _
  · exact Nat.two_pow_pos _
  · exact h
  · exact h

theorem busTimeout_twWait_lt {s : State} (h : s.twWait < 2 ^ s.cfg.cntW) :
    (busTimeout s).twWait < 2 ^ s.cfg.cntW := by
  rcases busTimeout_cases s with ⟨-, k⟩ | ⟨-, n, -, ⟨-, k⟩ | ⟨-, k⟩⟩ <;> rw [k]
  · exact h
  · exact inc_lt _ _
  · exact inc_lt _ _

theorem effect_twWait_lt {i : Instr} {s : State} (h : s.twWait < 2 ^ s.cfg.cntW) :
    (effect i s).twWait < 2 ^ s.cfg.cntW := by
  cases i with
  | twWrite dev byte => exact Nat.two_pow_pos _
  | twReady status => exact ready_twWait_lt h
  | tick raw => simpa [effect, tickStep] using busTimeout_twWait_lt (s := dteStep raw s) (by simpa using h)
  | _ => simpa [effect, startConversion, captureSample] using h

end Sys2Proof.Machine

namespace Sys2Proof.Safety

open Sys2Proof.Machine

/-! ## The ranges -/

/-- A counter counts within its width, or stands (R24). -/
theorem count_lt {c : Config} {v : Nat} {counts : Bool} (h : v < 2 ^ c.cntW) :
    (if counts then inc c v else v) < 2 ^ c.cntW := by
  cases counts
  · exact h
  · exact inc_lt c v

theorem restart_lt {v n : Nat} {restarts : Bool} (h : v < n) : (if restarts then 0 else v) < n := by
  cases restarts
  · exact h
  · exact Nat.zero_lt_of_lt h

theorem rangeInv_dteStep {raw : Bool} {s : State} (h : RangeInv s) : RangeInv (dteStep raw s) := by
  obtain ⟨htick, -, -, -, -, hmode, -, hratio, -, hser, -⟩ := dteStep_fields raw s
  constructor <;> rw [dteStep_cfg]
  · exact h.config
  · rw [htick]
    split
    · exact Nat.zero_le _
    next hb => simpa [exceeds] using hb
  · exact hmode ▸ count_lt h.modeCnt
  · exact hratio ▸ restart_lt (count_lt h.ratioCnt)
  · exact hser ▸ restart_lt (count_lt h.serCnt)
  · exact (dteStep_twWait raw s).trans_lt h.twWait
  · exact (dteStep_sample raw s).trans_lt h.sample

theorem rangeInv_busTimeout {s : State} (h : RangeInv s) : RangeInv (busTimeout s) where
  config := by simpa using h.config
  tickCnt := by simpa using h.tickCnt
  modeCnt := by simpa using h.modeCnt
  ratioCnt := by simpa using h.ratioCnt
  serCnt := by simpa using h.serCnt
  twWait := by simpa using busTimeout_twWait_lt h.twWait
  sample := by simpa using h.sample

theorem rangeInv_effect {i : Instr} {s : State} (hw : i.wellFormed s.cfg = true) (h : RangeInv s) :
    RangeInv (effect i s) := by
  obtain ⟨raw, rfl⟩ | ⟨trig, -, hd⟩ := effect_dte i s
  · exact rangeInv_busTimeout (rangeInv_dteStep h)
  · constructor <;> rw [effect_cfg]
    · exact h.config
    · exact hd.tickCnt.trans_le h.tickCnt
    · exact hd.modeCnt.trans_lt h.modeCnt
    · exact hd.ratioCnt.trans_lt h.ratioCnt
    · exact hd.serCnt.trans_lt h.serCnt
    · exact effect_twWait_lt h.twWait
    · exact effect_sample_lt hw h.sample

theorem rangeInv_consumed {s : State} {rest : List Word} (h : RangeInv s) : RangeInv { s with stimuli := rest } :=
  ⟨h.config, h.tickCnt, h.modeCnt, h.ratioCnt, h.serCnt, h.twWait, h.sample⟩

theorem rangeInv_respond {s : State} {w : Word} (h : RangeInv s) : RangeInv (s.respond w) :=
  ⟨h.config, h.tickCnt, h.modeCnt, h.ratioCnt, h.serCnt, h.twWait, h.sample⟩

theorem rangeInv_step {s t : State} (hs : RangeInv s) (h : step s = .next t) : RangeInv t :=
  step_keeps (fun _ _ => rangeInv_consumed) (fun _ _ hw _ => rangeInv_effect hw) (fun _ _ _ => rangeInv_respond) hs h

/-! ## The timing engine -/

/-- R34: the debounced flag is the reliable sample. -/
def FlagIsReliableSample (s : State) : Prop := s.debounced = (s.reliable && s.rawSample)

theorem FlagIsReliableSample.debounced_false {s : State} (h : FlagIsReliableSample s) (hr : s.reliable = false) :
    s.debounced = false := by
  rw [h, hr, Bool.false_and]

theorem flagIsReliableSample_tickStep (raw : Bool) (s : State) : FlagIsReliableSample (tickStep raw s) := by
  obtain ⟨-, -, -, -, hflag, -⟩ := dteStep_fields raw s
  simpa [FlagIsReliableSample, tickStep] using hflag

theorem flagIsReliableSample_effect {i : Instr} {s : State} (h : FlagIsReliableSample s) :
    FlagIsReliableSample (effect i s) := by
  obtain ⟨raw, rfl⟩ | ⟨trig, -, hd⟩ := effect_dte i s
  · exact flagIsReliableSample_tickStep raw s
  · unfold FlagIsReliableSample
    rw [hd.debounced, hd.reliable, hd.rawSample]
    exact h

theorem flagIsReliableSample_step {s t : State} (hs : FlagIsReliableSample s) (h : step s = .next t) :
    FlagIsReliableSample t :=
  step_keeps (fun _ _ h => h) (fun _ _ _ _ => flagIsReliableSample_effect) (fun _ _ _ h => h) hs h

/-- With `FEAT_MODE` off a tick leaves the mode counter and the mode line as they are (R126, R128). -/
theorem dteStep_of_mode_off {raw : Bool} {s : State} (hoff : s.cfg.featMode = false) :
    (dteStep raw s).modeCnt = s.modeCnt ∧ (dteStep raw s).outMode = s.outMode := by
  obtain ⟨-, -, -, -, -, hmode, hline, -⟩ := dteStep_fields raw s
  simp only [hoff] at hmode hline
  exact ⟨hmode, hline⟩

/-- With `FEAT_RATIO` off a tick leaves the ratio counter and the ratio line as they are (R122, R130). -/
theorem dteStep_of_ratio_off {raw : Bool} {s : State} (hoff : s.cfg.featRatio = false) :
    (dteStep raw s).ratioCnt = s.ratioCnt ∧ (dteStep raw s).outRatio = s.outRatio := by
  obtain ⟨-, -, -, -, -, -, -, hcnt, hline, -⟩ := dteStep_fields raw s
  simp only [hoff] at hcnt hline
  exact ⟨hcnt, hline⟩

/-- With `FEAT_HEARTBEAT` off a tick leaves the serial counter and the trigger as they are (R122, R131). -/
theorem dteStep_of_heartbeat_off {raw : Bool} {s : State} (hoff : s.cfg.featHeartbeat = false) :
    (dteStep raw s).serCnt = s.serCnt ∧ (dteStep raw s).serTrig = s.serTrig := by
  obtain ⟨-, -, -, -, -, -, -, -, -, hcnt, htrig⟩ := dteStep_fields raw s
  simp only [hoff] at hcnt htrig
  exact ⟨hcnt, htrig⟩

theorem dteInv_dteStep {raw : Bool} {s : State} (h : DteInv s) : DteInv (dteStep raw s) := by
  obtain ⟨-, -, hraw, hprev, hflag, -, hline, -⟩ := dteStep_fields raw s
  refine ⟨hflag, by rw [hprev, hraw, h.prevRaw], ?_⟩
  by_cases hon : s.cfg.featMode = true
  · rw [hline, if_pos hon]
  · obtain ⟨hcnt, hsame⟩ := dteStep_of_mode_off (raw := raw) (by simpa using hon)
    rw [hsame, mode_congr hcnt, h.outMode]

theorem dteInv_effect {i : Instr} {s : State} (h : DteInv s) : DteInv (effect i s) := by
  obtain ⟨raw, rfl⟩ | ⟨trig, -, hd⟩ := effect_dte i s
  · obtain ⟨-, hprev, hline⟩ := dteInv_dteStep (raw := raw) h
    exact ⟨flagIsReliableSample_tickStep raw s, by simpa [effect, tickStep] using hprev,
      by simpa [effect, tickStep, mode_eq] using hline⟩
  · constructor
    · rw [hd.debounced, hd.reliable, hd.rawSample, h.debounced]
    · rw [hd.prevRaw, hd.rawSample, h.prevRaw]
    · rw [hd.outMode, mode_congr (s := s) hd.modeCnt, h.outMode]

theorem dteInv_step {s t : State} (hs : DteInv s) (h : step s = .next t) : DteInv t :=
  step_keeps (fun _ _ h => ⟨h.debounced, h.prevRaw, h.outMode⟩) (fun _ _ _ _ => dteInv_effect)
    (fun _ _ _ h => ⟨h.debounced, h.prevRaw, h.outMode⟩) hs h

/-! ## The features that are off, and the enable line -/

/-- With `FEAT_MODE` off no stimulus writes the mode counter or the mode line (R27, R128). -/
theorem effect_of_mode_off (i : Instr) {s : State} (hoff : s.cfg.featMode = false) :
    (effect i s).modeCnt = s.modeCnt ∧ (effect i s).outMode = s.outMode := by
  obtain ⟨raw, rfl⟩ | ⟨trig, -, hd⟩ := effect_dte i s
  · simpa [effect, tickStep] using dteStep_of_mode_off (raw := raw) hoff
  · exact ⟨hd.modeCnt, hd.outMode⟩

/-- With `FEAT_RATIO` off no stimulus writes the ratio counter or the ratio line (R29, R130). -/
theorem effect_of_ratio_off (i : Instr) {s : State} (hoff : s.cfg.featRatio = false) :
    (effect i s).ratioCnt = s.ratioCnt ∧ (effect i s).outRatio = s.outRatio := by
  obtain ⟨raw, rfl⟩ | ⟨trig, -, hd⟩ := effect_dte i s
  · simpa [effect, tickStep] using dteStep_of_ratio_off (raw := raw) hoff
  · exact ⟨hd.ratioCnt, hd.outRatio⟩

/-- With `FEAT_HEARTBEAT` off no stimulus sets the trigger or writes the serial counter (R30, R131). -/
theorem effect_of_heartbeat_off (i : Instr) {s : State} (hoff : s.cfg.featHeartbeat = false)
    (htrig : s.serTrig = false) : (effect i s).serCnt = s.serCnt ∧ (effect i s).serTrig = false := by
  obtain ⟨raw, rfl⟩ | ⟨trig, hle, hd⟩ := effect_dte i s
  · simpa [effect, tickStep, htrig] using dteStep_of_heartbeat_off (raw := raw) hoff
  · exact ⟨hd.serCnt, hd.serTrig.trans (by simpa [htrig] using hle)⟩

theorem featureInv_effect {i : Instr} {s : State} (h : FeatureInv s) : FeatureInv (effect i s) := by
  constructor <;> rw [effect_cfg] <;> intro hf
  case mode =>
    obtain ⟨hcnt, hline⟩ := effect_of_mode_off i hf
    rw [hcnt, hline]
    exact h.mode hf
  case ratio =>
    obtain ⟨hcnt, hline⟩ := effect_of_ratio_off i hf
    rw [hcnt, hline]
    exact h.ratio hf
  case heartbeat =>
    obtain ⟨hcnt, htrig⟩ := effect_of_heartbeat_off i hf (h.heartbeat hf).2
    exact ⟨hcnt.trans (h.heartbeat hf).1, htrig⟩
  case gated =>
    rcases effect_adc i s with ⟨hen, hpend⟩ | ⟨v, hen, hpend⟩
    · rw [hen, hpend, h.gated hf]
    · rw [hen, hpend, if_pos hf]
  case ungated =>
    rcases effect_adc i s with ⟨hen, -⟩ | ⟨v, hen, -⟩
    · rw [hen, h.ungated hf]
    · rw [hen, hf, h.ungated hf]
      rfl

theorem featureInv_step {s t : State} (hs : FeatureInv s) (h : step s = .next t) : FeatureInv t :=
  step_keeps (fun _ _ h => ⟨h.mode, h.ratio, h.heartbeat, h.gated, h.ungated⟩) (fun _ _ _ _ => featureInv_effect)
    (fun _ _ _ h => ⟨h.mode, h.ratio, h.heartbeat, h.gated, h.ungated⟩) hs h

/-! ## Command port, bus and serial queue -/

/-- While the serial half stands still, the agreement turns on the bus phase alone. -/
theorem PortInv.of_serial_same {s t : State} (h : PortInv s) (hcfg : t.cfg = s.cfg) (hq : t.serQ = s.serQ)
    (hn : t.serN = s.serN) (he : t.serTxe = s.serTxe) (hsend : sending t ↔ sending s)
    (hbus : t.twPhase ≠ .idle ↔ t.hostOp = .tw) : PortInv t where
  bus := hbus
  queue := by rw [hq, hsend, h.queue]
  waiting hs := he.trans (h.waiting (hsend.1 hs))
  bound := by rw [hq, hcfg]; exact h.bound
  counted := by rw [hq, hn]; exact h.counted

/-- A stimulus that leaves alone both sequencers and the host port keeps the agreement. -/
theorem PortInv.of_same {s t : State} (h : PortInv s) (hcfg : t.cfg = s.cfg) (hq : t.serQ = s.serQ)
    (hn : t.serN = s.serN) (he : t.serTxe = s.serTxe) (hp : t.twPhase = s.twPhase) (ho : t.hostOp = s.hostOp) :
    PortInv t :=
  h.of_serial_same hcfg hq hn he (by unfold sending; rw [ho]) (by rw [hp, ho, h.bus])

/-- A phase is outstanding: the write is, and no send (R48, R51). -/
theorem PortInv.not_sending {s : State} (h : PortInv s) (hp : s.twPhase ≠ .idle) : ¬ sending s := by
  simp [sending, h.bus.1 hp]

/-- The bus is free when no command is outstanding. -/
theorem PortInv.bus_idle {s : State} (h : PortInv s) (ho : s.hostOp ≠ .tw) : s.twPhase = .idle :=
  by_contra fun hp => ho (h.bus.1 hp)

theorem portInv_respond {s : State} {w : Word} (ho : s.hostOp = .none) (h : PortInv s) : PortInv (s.respond w) :=
  h.of_same rfl rfl rfl rfl rfl ho.symm

theorem portInv_raiseBusError {s : State} {e : BusError} (h : PortInv s) (hp : s.twPhase ≠ .idle) :
    PortInv (s.raiseBusError e) :=
  h.of_serial_same rfl rfl rfl rfl (iff_of_false (by simp [sending]) (h.not_sending hp)) (by simp)

theorem portInv_ready {status : Byte} {s : State} (h : PortInv s) : PortInv (ready status s) := by
  rcases ready_cases status s with ⟨-, k⟩ | ⟨hp, -, k⟩ | ⟨hp, -, k⟩ | ⟨hp, -, k⟩ | ⟨hp, e, -, k⟩ <;> rw [k]
  · exact h
  · have ho := h.bus.1 (by simp [hp])
    exact h.of_serial_same rfl rfl rfl rfl Iff.rfl (by simp [ho])
  · have ho := h.bus.1 (by simp [hp])
    exact h.of_serial_same rfl rfl rfl rfl Iff.rfl (by simp [ho])
  · have hsend := h.not_sending (by simp [hp])
    exact h.of_serial_same rfl rfl rfl rfl (iff_of_false (by simp [sending]) hsend) (by simp)
  · exact portInv_raiseBusError h hp

theorem portInv_busTimeout {s : State} (h : PortInv s) : PortInv (busTimeout s) := by
  have waited : PortInv { s with twWait := inc s.cfg s.twWait } := h.of_same rfl rfl rfl rfl rfl rfl
  rcases busTimeout_cases s with ⟨-, k⟩ | ⟨hp, n, -, ⟨-, k⟩ | ⟨-, k⟩⟩ <;> rw [k]
  · exact h
  · exact portInv_raiseBusError waited hp
  · exact waited

theorem portInv_dteStep {raw : Bool} {s : State} (h : PortInv s) : PortInv (dteStep raw s) :=
  h.of_same (by simp) (by simp) (by simp) (by simp) (by simp) (by simp)

/-- The pump restores the wait: it leaves an outstanding send finished, or waiting on a full port, whatever the port
held before (R147). -/
theorem portInv_pump {s : State} (h : PortInv { s with serTxe := false }) : PortInv (pump s) := by
  have hbus : s.twPhase ≠ .idle ↔ s.hostOp = .tw := h.bus
  have hqueue : s.serQ ≠ [] ↔ sending s := h.queue
  have hbound : s.serQ.length ≤ max 1 (maxLine s.cfg) := h.bound
  have hcounted : s.serQ.length ≤ s.serN.toNat := h.counted
  by_cases hs : sending s ∧ s.serTxe = true
  · obtain ⟨hsend, he⟩ := hs
    obtain ⟨b, q, hq⟩ := List.exists_cons_of_ne_nil (hqueue.2 hsend)
    simp only [hq, List.length_cons] at hbound hcounted
    by_cases hn : q = []
    · subst hn
      have hidle : s.twPhase = .idle := by
        by_contra hp
        rcases hsend with ho | ho <;> cases ho.symm.trans (hbus.1 hp)
      rw [pump_last hsend he hq]
      constructor <;> simp [sending, hidle]
    · rw [pump_more hsend he hq hn]
      exact ⟨hbus, iff_of_true hn hsend, fun _ => rfl, Nat.le_of_succ_le hbound, Nat.le_of_succ_le hcounted⟩
  · rw [pump_of_idle hs]
    exact ⟨hbus, hqueue, fun hsend => by simpa [hsend] using hs, hbound, hcounted⟩

/-- A send accepted with bytes that fit the queue's bound and the byte-wide count (R46, R47, R146, R149). -/
theorem portInv_beginSend {op : HostOp} {bytes : List Byte} {s : State} (hop : op = .tx ∨ op = .line)
    (hne : bytes ≠ []) (hbound : bytes.length ≤ max 1 (maxLine s.cfg)) (hcount : bytes.length ≤ 255)
    (hidle : s.twPhase = .idle) : PortInv (beginSend op bytes s) := by
  have hcounted : bytes.length ≤ (BitVec.ofNat 8 bytes.length).toNat := by
    rw [BitVec.toNat_ofNat]
    omega
  refine portInv_pump ⟨?_, iff_of_true hne hop, fun _ => rfl, hbound, hcounted⟩
  rcases hop with rfl | rfl <;> simp [hidle]

theorem maxLine_le_of_configValid {c : Config} (h : configValid c = true) : maxLine c ≤ 255 := by
  by_contra hc
  have := (configValid_eq_false_iff c).2 (by omega)
  simp [h] at this

theorem portInv_sendLine {s : State} (hr : RangeInv s) (ho : s.hostOp = .none) (h : PortInv s) :
    PortInv (sendLine s) := by
  have consumed : PortInv { s with serTrig := false } := h.of_same rfl rfl rfl rfl rfl rfl
  unfold sendLine
  split
  · obtain ⟨b, q, hline, -⟩ := statusLine_cons s.cfg s.sample
    have hle : (statusLine s.cfg s.sample).length ≤ maxLine s.cfg := statusLine_le_maxLine hr.sample
    exact portInv_beginSend (.inr rfl) (by simp [hline]) (le_max_of_le_right hle)
      (hle.trans (maxLine_le_of_configValid hr.config)) (h.bus_idle (by simp [ho]))
  · exact portInv_respond ho consumed

theorem portInv_startConversion {s : State} (ho : s.hostOp = .none) (h : PortInv s) : PortInv (startConversion s) := by
  apply h.of_same <;> simp [startConversion, ho]

theorem portInv_captureSample {sample : Nat} {s : State} (h : PortInv s) : PortInv (captureSample sample s) := by
  apply h.of_same <;> simp [captureSample]

theorem portInv_pollReceive {s : State} (ho : s.hostOp = .none) (h : PortInv s) : PortInv (pollReceive s) := by
  unfold pollReceive
  split
  · exact h.of_same rfl rfl rfl rfl rfl ho.symm
  · exact portInv_respond ho h

theorem portInv_startWrite {dev : BitVec 7} {byte : Byte} {s : State} (ho : s.hostOp = .none) (h : PortInv s) :
    PortInv (startWrite dev byte s) :=
  h.of_serial_same rfl rfl rfl rfl (by simp [startWrite, sending, ho]) (by simp [startWrite])

theorem portInv_effect {i : Instr} {s : State} (hidle : i.isEvent = false → s.hostOp = .none) (hr : RangeInv s)
    (h : PortInv s) : PortInv (effect i s) := by
  cases i with
  | twWrite dev byte => exact portInv_startWrite (hidle rfl) h
  | adcStart => exact portInv_startConversion (hidle rfl) h
  | serTx byte =>
    exact portInv_beginSend (.inl rfl) (by simp) (by simp) (by simp) (h.bus_idle (by simp [hidle rfl]))
  | serLine => exact portInv_sendLine hr (hidle rfl) h
  | serRxpoll => exact portInv_pollReceive (hidle rfl) h
  | rd sel => exact portInv_respond (hidle rfl) h
  | tick raw => exact portInv_busTimeout (portInv_dteStep h)
  | convDone sample => exact portInv_captureSample h
  | twReady status => exact portInv_ready h
  | serTxe => exact portInv_pump ⟨h.bus, h.queue, fun _ => rfl, h.bound, h.counted⟩
  | serRx byte => exact h.of_same rfl rfl rfl rfl rfl rfl

theorem rangeInv_portInv_step {s t : State} (hr : RangeInv s) (hp : PortInv s) (h : step s = .next t) :
    RangeInv t ∧ PortInv t :=
  step_keeps (P := fun s => RangeInv s ∧ PortInv s)
    (fun _ _ ⟨hr, hp⟩ => ⟨rangeInv_consumed hr, hp.of_same rfl rfl rfl rfl rfl rfl⟩)
    (fun _ _ hw hidle ⟨hr, hp⟩ => ⟨rangeInv_effect hw hr, portInv_effect hidle hr hp⟩)
    (fun _ _ ho ⟨hr, hp⟩ => ⟨rangeInv_respond hr, portInv_respond ho hp⟩) ⟨hr, hp⟩ h

end Sys2Proof.Safety

namespace Sys2Proof.Proofs

open Sys2Proof.Machine Sys2Proof.Safety

/-! ## The obligations -/

/-- Settles O49: the counters wrap at their width, a boundary restarts the tick counter, and a sample out of range is
refused. -/
theorem stepKeepsRanges : Obligations.StepKeepsRanges := by
  unfold Obligations.StepKeepsRanges
  intro s t hs h
  exact rangeInv_step hs h

/-- Settles O50: the flag is the reliable sample at reset, and every step keeps it so. -/
theorem unreliableWindowForcesFlagFalse : Obligations.UnreliableWindowForcesFlagFalse := by
  unfold Obligations.UnreliableWindowForcesFlagFalse
  have both : ∀ {s}, FlagIsReliableSample s →
      (s.reliable = false → s.debounced = false) ∧ s.debounced = (s.reliable && s.rawSample) :=
    fun h => ⟨h.debounced_false, h⟩
  exact ⟨fun c => both (dteInv_resetWith c).debounced, fun s t hs h => both (flagIsReliableSample_step hs h)⟩

/-- Settles O51: only a tick writes these fields, and it recomputes the flag and, with the feature on, the line. -/
theorem stepKeepsTimingInvariant : Obligations.StepKeepsTimingInvariant := by
  unfold Obligations.StepKeepsTimingInvariant
  intro s t hs h
  exact dteInv_step hs h

/-- Settles O52: a feature that is off is written by no tick, and the enable line moves with the conversion. -/
theorem stepKeepsFeatureInvariant : Obligations.StepKeepsFeatureInvariant := by
  unfold Obligations.StepKeepsFeatureInvariant
  intro s t hs h
  exact featureInv_step hs h

/-- Settles O53: a command starts from a free bus and an empty queue, and the pump leaves a send finished or waiting. -/
theorem stepKeepsPortInvariant : Obligations.StepKeepsPortInvariant := by
  unfold Obligations.StepKeepsPortInvariant
  intro s t hr hp h
  exact (rangeInv_portInv_step hr hp h).2

/-- Settles O47: the reset state is R52's table; the enable line's entry is the negated gate. -/
theorem resetTable : Obligations.ResetTable := by
  unfold Obligations.ResetTable
  intro c
  simp [State.resetWith]

end Sys2Proof.Proofs
end

section
/-! Proofs of the memory obligations (20_memory.md): the read of shared state is repeatable (R67), and the bus phases in
the trace are strictly sequential (R69, R100). -/

namespace Sys2Proof.Machine

/-! ## A read and the response to it -/

/-- With the command port ready a response writes the trace and nothing else (R11). -/
theorem respond_of_idle {s : State} (w : Word) (h : s.hostOp = .none) :
    s.respond w = { s with out := s.out ++ [.rsp w] } := by
  rw [State.respond, ← h]
  rfl

/-- No selector names the trace or the command port, so a response changes no readable value (R161). -/
theorem selectorValue_respond (s : State) (w : Word) (sel : Byte) :
    selectorValue (s.respond w) sel = selectorValue s sel := rfl

theorem readResponse_respond (s : State) (w : Word) (sel : Byte) :
    readResponse sel (s.respond w) = readResponse sel s := by
  unfold readResponse
  rw [selectorValue_respond]

/-- A read with the command port ready is answered at once (R160). -/
theorem exec_rd_of_idle {s : State} (sel : Byte) (h : s.hostOp = .none) :
    exec (.rd sel) s = .next (s.respond (readResponse sel s)) :=
  (exec_command rfl s).trans (whenReady_of_idle h)

end Sys2Proof.Machine

namespace Sys2Proof.Safety

open Sys2Proof.Machine

/-! ## When the bus is free -/

/-- A command that is admitted finds the bus free (R48, R82). -/
theorem PortInv.bus_idle_of_ready {s : State} (h : PortInv s) (hready : s.hostOp = .none) : s.twPhase = .idle :=
  h.bus_idle (hready.trans_ne nofun)

/-- A send that is outstanding finds the bus free (R48, R51). -/
theorem PortInv.bus_idle_of_sending {s : State} (h : PortInv s) (hsend : sending s) : s.twPhase = .idle :=
  by_contra fun hbusy => h.not_sending hbusy hsend

/-! ## The observer of the bus phases -/

/-- The observer of the trace knows the master's phase, no phase having come out of sequence (R69). -/
def BusFollowed (s : State) : Prop := busTrace s.out = some s.twPhase

theorem busTrace_append_singleton (out : List OutEvent) (e : OutEvent) :
    busTrace (out ++ [e]) = busObserve (busTrace out) e := by
  simp [busTrace]

theorem BusFollowed.of_same {s t : State} (h : BusFollowed s) (hout : t.out = s.out) (hp : t.twPhase = s.twPhase) :
    BusFollowed t := by
  unfold BusFollowed
  rw [hout, hp, h]

/-- One more event, in sequence: the observer infers the phase the master moves to. -/
theorem BusFollowed.observed {s t : State} {e : OutEvent} (h : BusFollowed s) (hout : t.out = s.out ++ [e])
    (hp : busObserve (some s.twPhase) e = some t.twPhase) : BusFollowed t := by
  unfold BusFollowed
  rw [hout, busTrace_append_singleton, h, hp]

/-- A response is the end of a transaction to the observer, so it must find the bus free. -/
theorem BusFollowed.respond {s : State} (h : BusFollowed s) (hidle : s.twPhase = .idle) (w : Word) :
    BusFollowed (s.respond w) :=
  h.observed rfl (congrArg some hidle.symm)

/-- An error ends the transaction in any phase (R11). -/
theorem BusFollowed.raiseBusError {s : State} (h : BusFollowed s) (e : BusError) : BusFollowed (s.raiseBusError e) :=
  h.observed rfl rfl

theorem busFollowed_resetWith (c : Config) : BusFollowed (State.resetWith c) := rfl

/-! ## What each stimulus shows the observer -/

theorem busFollowed_startWrite {dev : BitVec 7} {byte : Byte} {s : State} (hidle : s.twPhase = .idle)
    (h : BusFollowed s) : BusFollowed (startWrite dev byte s) :=
  h.observed rfl (by rw [hidle]; rfl)

/-- Each phase's ready shows the request that follows it, or ends the transaction (R103 to R106). -/
theorem busFollowed_ready {status : Byte} {s : State} (h : BusFollowed s) : BusFollowed (ready status s) := by
  rcases ready_cases status s with ⟨-, k⟩ | ⟨hp, -, k⟩ | ⟨hp, -, k⟩ | ⟨hp, -, k⟩ | ⟨-, e, -, k⟩ <;> rw [k]
  · exact h
  · exact h.observed rfl (by rw [hp]; rfl)
  · exact h.observed rfl (by rw [hp]; rfl)
  · have stopped : BusFollowed { s.emit .twStop with twPhase := .idle } := h.observed rfl (by rw [hp]; rfl)
    exact stopped.respond rfl _
  · exact h.raiseBusError e

theorem busFollowed_busTimeout {s : State} (h : BusFollowed s) : BusFollowed (busTimeout s) := by
  have waited : BusFollowed { s with twWait := inc s.cfg s.twWait } := h.of_same rfl rfl
  rcases busTimeout_cases s with ⟨-, k⟩ | ⟨-, n, -, ⟨-, k⟩ | ⟨-, k⟩⟩ <;> rw [k]
  · exact h
  · exact waited.raiseBusError _
  · exact waited

theorem busFollowed_tickStep {raw : Bool} {s : State} (h : BusFollowed s) : BusFollowed (tickStep raw s) :=
  busFollowed_busTimeout (h.of_same (dteStep_out raw s) (dteStep_twPhase raw s))

/-- The pump answers a send only, and a send finds the bus free (R147, R48). -/
theorem busFollowed_pump {s : State} (hfree : sending s → s.twPhase = .idle) (h : BusFollowed s) :
    BusFollowed (pump s) := by
  rcases pump_cases s with k | ⟨hsend, -, b, q, -, ⟨-, k⟩ | ⟨-, k⟩⟩ <;> rw [k]
  · exact h
  · have written : BusFollowed (State.emit { s with serQ := [], serTxe := false } (.serByte b)) := h.observed rfl rfl
    exact written.respond (hfree hsend) _
  · exact h.observed rfl rfl

theorem busFollowed_beginSend {op : HostOp} {bytes : List Byte} {s : State} (hidle : s.twPhase = .idle)
    (h : BusFollowed s) : BusFollowed (beginSend op bytes s) :=
  busFollowed_pump (fun _ => hidle) (h.of_same rfl rfl)

theorem busFollowed_sendLine {s : State} (hidle : s.twPhase = .idle) (h : BusFollowed s) :
    BusFollowed (sendLine s) := by
  have consumed : BusFollowed { s with serTrig := false } := h.of_same rfl rfl
  unfold sendLine
  split
  · exact busFollowed_beginSend hidle consumed
  · exact consumed.respond hidle _

theorem busFollowed_pollReceive {s : State} (hidle : s.twPhase = .idle) (h : BusFollowed s) :
    BusFollowed (pollReceive s) := by
  unfold pollReceive
  split
  · exact h.observed rfl (congrArg some hidle.symm)
  · exact h.respond hidle _

theorem busFollowed_driveAdcEnable {v : Bool} {s : State} (h : BusFollowed s) :
    BusFollowed (driveAdcEnable v s) := by
  unfold driveAdcEnable
  split
  · exact h.observed rfl rfl
  · exact h

theorem busFollowed_startConversion {s : State} (hidle : s.twPhase = .idle) (h : BusFollowed s) :
    BusFollowed (startConversion s) := by
  have triggered : BusFollowed { (driveAdcEnable true s).emit .adcTrig with convPending := true } :=
    (busFollowed_driveAdcEnable h).observed rfl rfl
  exact triggered.respond ((driveAdcEnable_twPhase true s).trans hidle) _

theorem busFollowed_captureSample {sample : Nat} {s : State} (h : BusFollowed s) :
    BusFollowed (captureSample sample s) :=
  busFollowed_driveAdcEnable (h.of_same rfl rfl)

/-- A command finds the bus free (R48, R82); an event moves the phase and shows the observer the same move. -/
theorem busFollowed_effect {i : Instr} {s : State} (hadmit : i.isEvent = false → s.hostOp = .none) (hp : PortInv s)
    (h : BusFollowed s) : BusFollowed (effect i s) := by
  have hidle (hi : i.isEvent = false) : s.twPhase = .idle := hp.bus_idle_of_ready (hadmit hi)
  cases i with
  | twWrite dev byte => exact busFollowed_startWrite (hidle rfl) h
  | adcStart => exact busFollowed_startConversion (hidle rfl) h
  | serTx byte => exact busFollowed_beginSend (hidle rfl) h
  | serLine => exact busFollowed_sendLine (hidle rfl) h
  | serRxpoll => exact busFollowed_pollReceive (hidle rfl) h
  | rd sel => exact h.respond (hidle rfl) _
  | tick raw => exact busFollowed_tickStep h
  | convDone sample => exact busFollowed_captureSample h
  | twReady status => exact busFollowed_ready h
  | serTxe => exact busFollowed_pump hp.bus_idle_of_sending (h.of_same rfl rfl)
  | serRx byte => exact h.of_same rfl rfl

/-- `step_keeps` does not serve here: the port invariant is kept only in range (R46), and is asked of the first state
alone. -/
theorem busFollowed_step {s t : State} (hp : PortInv s) (h : BusFollowed s) (hstep : step s = .next t) :
    BusFollowed t := by
  obtain ⟨-, w, rest, -, hran⟩ := step_next hstep
  have consumedPort : PortInv { s with stimuli := rest } := hp.of_same rfl rfl rfl rfl rfl rfl
  have consumed : BusFollowed { s with stimuli := rest } := h.of_same rfl rfl
  rcases hran with ⟨i, -, hx⟩ | ⟨-, hx⟩
  · obtain ⟨rfl, hadmit⟩ := exec_next hx
    exact busFollowed_effect hadmit consumedPort consumed
  · obtain ⟨hready, rfl⟩ := whenReady_next hx
    exact consumed.respond (consumedPort.bus_idle_of_ready hready) _

end Sys2Proof.Safety

namespace Sys2Proof.Proofs

open Sys2Proof.Machine Sys2Proof.Safety

/-! ## The obligations -/

/-- Settles O54: only a ready and the timeout move the phase of an outstanding write, each in sequence, and whatever
else answers a command finds the bus free. -/
theorem busPhasesStrictlySequential : Obligations.BusPhasesStrictlySequential := by
  unfold Obligations.BusPhasesStrictlySequential
  exact ⟨busFollowed_resetWith, fun _ _ hp h hstep => busFollowed_step hp h hstep⟩

/-- Settles O46: the first read found the port ready, leaves it so, and its response changes no readable value. -/
theorem readIsRepeatable : Obligations.ReadIsRepeatable := by
  unfold Obligations.ReadIsRepeatable
  intro s t sel h
  obtain ⟨rfl, hadmit⟩ := exec_next h
  have first : effect (.rd sel) s = s.respond (readResponse sel s) := rfl
  have second := exec_rd_of_idle (s := s.respond (readResponse sel s)) sel rfl
  rw [readResponse_respond, respond_of_idle (s := s.respond _) _ rfl] at second
  exact ⟨readResponse sel s, first.trans (respond_of_idle _ (hadmit rfl)), second⟩

end Sys2Proof.Proofs
end

section
/-! Proofs of the encoding obligations (30_encoding.md): decoder, encoder and the rows' masks agree (R80 to R88), the
words that spell nothing (R90 to R92), admission (R82), the count of responses (R89), and the wire-level view (R94). -/

namespace Sys2Proof

/-! ## Decoder and encoder -/

/-- A word is laid out from four bytes exactly when they are its fields. -/
theorem layout_eq_iff {op c a b : Byte} {w : Word} :
    layout op c a b = w ↔ opField w = op ∧ cField w = c ∧ aField w = a ∧ bField w = b := by
  constructor
  · rintro rfl
    simp
  · rintro ⟨rfl, rfl, rfl, rfl⟩
    exact layout_fields w

/-- A device address in a field `a` with its top bit zero (R85). -/
theorem eq_setWidth_dev_iff {a : Byte} {dev : BitVec 7} :
    a = dev.setWidth 8 ↔ a &&& 0x80#8 = 0#8 ∧ dev = a.extractLsb' 0 7 := by
  constructor
  · rintro rfl
    revert dev
    decide
  · rintro ⟨hz, rfl⟩
    revert a
    decide

/-- A level in a field `b` with the other bits zero (R87). -/
theorem eq_setWidth_level_iff {b : Byte} {raw : Bool} :
    b = (BitVec.ofBool raw).setWidth 8 ↔ b &&& 0xFE#8 = 0#8 ∧ raw = b.getLsbD 0 := by
  revert b raw
  decide

theorem msb_eq_false_iff {a : Byte} : a.msb = false ↔ a &&& 0x80#8 = 0#8 := by
  revert a
  decide

theorem extractLsb'_level_zeros_iff {b : Byte} : b.extractLsb' 1 7 = 0#7 ↔ b &&& 0xFE#8 = 0#8 := by
  revert b
  decide

theorem msb_encode (i : Instr) : (encode i).msb = i.isEvent := by
  cases i <;> exact msb_layout _ _ _ _

/-- The word of a term has the row's opcode and zeros, and its operands where the decoder looks for them. -/
theorem decode_encode {c : Config} {i : Instr} (h : i.wellFormed c = true) : decode c (encode i) = .instr i := by
  unfold decode
  rw [msb_encode]
  cases i with
  | twWrite dev byte =>
    obtain ⟨hz, hdev⟩ := eq_setWidth_dev_iff.1 (rfl : dev.setWidth 8 = dev.setWidth 8)
    simp [Instr.isEvent, encode, decodeHost, accept, msb_eq_false_iff.2 hz, ← hdev]
  | convDone sample => simpa [Instr.isEvent, encode, decodeEvent, accept, Instr.wellFormed] using h
  | tick raw => cases raw <;> rfl
  | _ => simp [Instr.isEvent, encode, decodeHost, decodeEvent, accept]

/-- A row is accepted only if its must-be-zero fields are zero. -/
theorem accept_eq_instr {zeros : Bool} {i j : Instr} {rejected : Decoded} (h : accept zeros i rejected = .instr j)
    (hr : ∀ k, rejected ≠ .instr k) : zeros = true ∧ i = j := by
  unfold accept at h
  split at h
  · cases h
    exact ⟨‹_›, rfl⟩
  · exact absurd h (hr j)

theorem encode_wellFormed_of_decodeHost {c : Config} {w : Word} {i : Instr} (h : decodeHost w = .instr i) :
    encode i = w ∧ i.wellFormed c = true := by
  unfold decodeHost at h
  split_ifs at h with hc h1 h2 h3 h4 h5 h6
  all_goals
    obtain ⟨hz, rfl⟩ := accept_eq_instr h (by nofun)
    simp only [ne_eq, not_not, Bool.not_eq_true', Bool.and_eq_true, beq_iff_eq] at hc hz
  · exact ⟨layout_eq_iff.2 ⟨h1, hc, eq_setWidth_dev_iff.2 ⟨msb_eq_false_iff.1 hz, rfl⟩, rfl⟩, rfl⟩
  · exact ⟨layout_eq_iff.2 ⟨h2, hc, hz⟩, rfl⟩
  · exact ⟨layout_eq_iff.2 ⟨h3, hc, hz, rfl⟩, rfl⟩
  · exact ⟨layout_eq_iff.2 ⟨h4, hc, hz⟩, rfl⟩
  · exact ⟨layout_eq_iff.2 ⟨h5, hc, hz⟩, rfl⟩
  · exact ⟨layout_eq_iff.2 ⟨h6, hc, hz, rfl⟩, rfl⟩

theorem encode_wellFormed_of_decodeEvent {c : Config} {w : Word} {i : Instr} (h : decodeEvent c w = .instr i) :
    encode i = w ∧ i.wellFormed c = true := by
  unfold decodeEvent at h
  split_ifs at h with hc h1 h2 h3 h4 h5
  all_goals
    obtain ⟨hz, rfl⟩ := accept_eq_instr h (by nofun)
    simp only [ne_eq, not_not, Bool.and_eq_true, beq_iff_eq] at hc hz
  · obtain ⟨ha, hb⟩ := hz
    exact ⟨layout_eq_iff.2 ⟨h1, hc, ha, eq_setWidth_level_iff.2 ⟨extractLsb'_level_zeros_iff.1 hb, rfl⟩⟩, rfl⟩
  · exact ⟨layout_eq_iff.2 ⟨h2, hc, (payload_high w).symm, (payload_low w).symm⟩, hz⟩
  · exact ⟨layout_eq_iff.2 ⟨h3, hc, hz, rfl⟩, rfl⟩
  · exact ⟨layout_eq_iff.2 ⟨h4, hc, hz⟩, rfl⟩
  · exact ⟨layout_eq_iff.2 ⟨h5, hc, hz, rfl⟩, rfl⟩

/-- A word is read as a term exactly when it is the word of that term, and the term is well-formed. -/
theorem decode_eq_instr_iff {c : Config} {w : Word} {i : Instr} :
    decode c w = .instr i ↔ encode i = w ∧ i.wellFormed c = true := by
  constructor
  · intro h
    unfold decode at h
    split at h
    · exact encode_wellFormed_of_decodeEvent h
    · exact encode_wellFormed_of_decodeHost h
  · rintro ⟨rfl, hw⟩
    exact decode_encode hw

/-- Bit 31 of a word that is read as a term tells an event from a host command (R80). -/
theorem msb_of_decode {c : Config} {w : Word} {i : Instr} (h : decode c w = .instr i) : w.msb = i.isEvent := by
  obtain ⟨rfl, -⟩ := decode_eq_instr_iff.1 h
  exact msb_encode i

/-! ## Words that are read as no term -/

/-- A row's word is read as the row's term or rejected under the name given. -/
theorem accept_cases (zeros : Bool) (i : Instr) (rejected : Decoded) :
    accept zeros i rejected = rejected ∨ ∃ j, accept zeros i rejected = .instr j := by
  cases zeros
  · exact .inl rfl
  · exact .inr ⟨i, rfl⟩

/-- A host word is rejected under R90's name only. -/
theorem decodeHost_cases (w : Word) : decodeHost w = .noCommand ∨ ∃ i, decodeHost w = .instr i := by
  unfold decodeHost
  split_ifs
  · exact .inl rfl
  on_goal -1 => exact .inl rfl
  all_goals exact accept_cases _ _ _

/-- An event word is rejected under R91's name only. -/
theorem decodeEvent_cases (c : Config) (w : Word) :
    decodeEvent c w = .notStimulus ∨ ∃ i, decodeEvent c w = .instr i := by
  unfold decodeEvent
  split_ifs
  · exact .inl rfl
  on_goal -1 => exact .inl rfl
  all_goals exact accept_cases _ _ _

theorem decode_host {c : Config} {w : Word} (hm : w.msb = false) : decode c w = decodeHost w := by
  simp [decode, hm]

theorem decode_event {c : Config} {w : Word} (hm : w.msb = true) : decode c w = decodeEvent c w := by
  simp [decode, hm]

theorem decode_eq_noCommand {c : Config} {w : Word} (hm : w.msb = false) (h : ∀ i, decode c w ≠ .instr i) :
    decode c w = .noCommand := by
  simp only [decode_host hm] at h ⊢
  exact (decodeHost_cases w).resolve_right (not_exists.2 h)

theorem decode_eq_notStimulus {c : Config} {w : Word} (hm : w.msb = true) (h : ∀ i, decode c w ≠ .instr i) :
    decode c w = .notStimulus := by
  simp only [decode_event hm] at h ⊢
  exact (decodeEvent_cases c w).resolve_right (not_exists.2 h)

theorem msb_of_decode_eq_noCommand {c : Config} {w : Word} (h : decode c w = .noCommand) : w.msb = false := by
  by_contra hm
  rw [decode_event (by simpa using hm)] at h
  rcases decodeEvent_cases c w with k | ⟨i, k⟩ <;> cases h.symm.trans k

/-! ## Rows, masks and operands -/

/-- The term a row reads from the fields of a word (R81, R83, R84). -/
def Row.term (w : Word) : Row → Instr
  | .twWrite => .twWrite ((aField w).extractLsb' 0 7) (bField w)
  | .adcStart => .adcStart
  | .serTx => .serTx (bField w)
  | .serLine => .serLine
  | .serRxpoll => .serRxpoll
  | .rd => .rd (bField w)
  | .tick => .tick ((bField w).getLsbD 0)
  | .convDone => .convDone (payload w)
  | .twReady => .twReady (bField w)
  | .serTxe => .serTxe
  | .serRx => .serRx (bField w)

@[simp] theorem Row.row_term (w : Word) (r : Row) : (r.term w).row = r := by
  cases r <;> rfl

/-- The must-be-zero bits of field `a` in a row (R81, R85 to R88). -/
def Row.aZeros : Row → Byte
  | .twWrite => 0x80#8
  | .convDone => 0#8
  | _ => 0xFF#8

/-- The must-be-zero bits of field `b` in a row (R81, R85 to R88). -/
def Row.bZeros : Row → Byte
  | .adcStart | .serLine | .serRxpoll | .serTxe => 0xFF#8
  | .tick => 0xFE#8
  | _ => 0#8

/-- The bits of a row's words that carry no operand. -/
def Row.fixedMask (r : Row) : Word := layout 0xFF#8 0xFF#8 r.aZeros r.bZeros

/-- But for the sample's range, they are the mask that R85 to R88 print. -/
theorem Row.fixedMask_eq_maskWord {r : Row} (h : r ≠ .convDone) : r.fixedMask = r.maskWord := by
  cases r
  case convDone => exact absurd rfl h
  all_goals decide

theorem Row.matchWord_eq_layout (r : Row) : r.matchWord = layout r.opcode 0#8 0#8 0#8 := by
  cases r <;> decide

theorem byte_and_ones (x : Byte) : x &&& 0xFF#8 = x := BitVec.and_allOnes

theorem word_and_ones (w : Word) : w &&& 0xFFFFFFFF#32 = w := BitVec.and_allOnes

/-- Mask and match of a word, field by field. -/
theorem and_layout_eq_layout_iff {w : Word} {ma mb op : Byte} :
    w &&& layout 0xFF#8 0xFF#8 ma mb = layout op 0#8 0#8 0#8 ↔
      opField w = op ∧ cField w = 0#8 ∧ aField w &&& ma = 0#8 ∧ bField w &&& mb = 0#8 := by
  have ho := opField_layout 0xFF#8 0xFF#8 ma mb
  have hc := cField_layout 0xFF#8 0xFF#8 ma mb
  have ha := aField_layout 0xFF#8 0xFF#8 ma mb
  have hb := bField_layout 0xFF#8 0xFF#8 ma mb
  rw [eq_comm, layout_eq_iff]
  simp only [opField, cField, aField, bField, BitVec.extractLsb'_and] at ho hc ha hb ⊢
  rw [ho, hc, ha, hb, byte_and_ones, byte_and_ones]

/-- A payload in the fields `a` and `b` (R86). -/
theorem eq_payload_iff {w : Word} {n : BitVec 16} :
    n = payload w ↔ aField w = n.extractLsb' 8 8 ∧ bField w = n.extractLsb' 0 8 := by
  constructor
  · rintro rfl
    exact ⟨(payload_high w).symm, (payload_low w).symm⟩
  · rintro ⟨ha, hb⟩
    rw [← layout_fields w, ha, hb, payload_layout]

/-- A word is a term's word exactly when its bits that carry no operand are the row's and the others spell the
operands. -/
theorem encode_eq_iff {i : Instr} {w : Word} :
    encode i = w ↔ w &&& i.row.fixedMask = i.row.matchWord ∧ i = i.row.term w := by
  rw [Row.matchWord_eq_layout, Row.fixedMask, and_layout_eq_layout_iff]
  cases i <;> simp only [encode, layout_eq_iff, Instr.row, Row.opcode, Row.aZeros, Row.bZeros, Row.term]
  case twWrite dev byte => simp [eq_setWidth_dev_iff, eq_comm (b := bField w), and_assoc]
  case tick raw => simp [byte_and_ones, eq_setWidth_level_iff, and_assoc]
  case convDone n => simp [eq_payload_iff, and_assoc]
  all_goals simp [byte_and_ones, eq_comm (b := bField w), and_assoc]

/-- Which words are read as a term, by the row's mask and match (R85 to R88). -/
theorem decode_eq_instr_iff_fixedMask {c : Config} {w : Word} {i : Instr} :
    decode c w = .instr i ↔
      (w &&& i.row.fixedMask = i.row.matchWord ∧ i = i.row.term w) ∧ i.wellFormed c = true := by
  rw [decode_eq_instr_iff, encode_eq_iff]

/-- A sample aside, every operand fills its field, so mask and match decide (R85, R87, R88). -/
theorem decode_eq_instr_iff_maskWord {c : Config} {w : Word} {i : Instr} (h : i.row ≠ .convDone) :
    decode c w = .instr i ↔ w &&& i.row.maskWord = i.row.matchWord ∧ i = i.row.term w := by
  rw [decode_eq_instr_iff_fixedMask, Row.fixedMask_eq_maskWord h]
  apply and_iff_left
  cases i
  case convDone => exact absurd rfl h
  all_goals rfl

/-- Which words are read as a term of a row. -/
theorem exists_decode_row_iff {c : Config} {w : Word} {r : Row} :
    (∃ i, decode c w = .instr i ∧ i.row = r) ↔ w &&& r.fixedMask = r.matchWord ∧ (r.term w).wellFormed c = true := by
  constructor
  · rintro ⟨i, hd, rfl⟩
    obtain ⟨⟨hm, ht⟩, hw⟩ := decode_eq_instr_iff_fixedMask.1 hd
    exact ⟨hm, ht ▸ hw⟩
  · rintro ⟨hm, hw⟩
    exact ⟨r.term w, decode_eq_instr_iff_fixedMask.2 (by simp [hm, hw]), Row.row_term w r⟩

/-- The operand `dev` of R85 in the word. -/
theorem dev_field (w : Word) : (aField w).extractLsb' 0 7 = w.extractLsb' 8 7 := by
  ext i hi
  simp [aField, show i < 8 by omega]

/-- The operand `raw` of R87 in the word. -/
theorem level_field (w : Word) : (bField w).getLsbD 0 = w.getLsbD 0 := by
  simp [bField]

/-- The top six bits of a payload are zero exactly when it is below `2^10` (R86). -/
theorem aField_and_iff (w : Word) : aField w &&& 0xFC#8 = 0#8 ↔ (payload w).toNat < 2 ^ 10 := by
  have hbyte (a : Byte) : a &&& 0xFC#8 = 0#8 ↔ a.toNat < 4 := by
    revert a
    decide
  have ha : (aField w).toNat = (payload w).toNat / 2 ^ 8 % 2 ^ 8 := by
    rw [← payload_high, BitVec.extractLsb'_toNat, Nat.shiftRight_eq_div_pow]
  have := (payload w).isLt
  rw [hbyte, ha]
  omega

/-- With 10-bit samples the range of R86 is six more must-be-zero bits. -/
theorem Row.maskWord_convDone_iff {w : Word} :
    w &&& Row.convDone.maskWord = Row.convDone.matchWord ↔
      w &&& Row.convDone.fixedMask = Row.convDone.matchWord ∧ (payload w).toNat < 2 ^ 10 := by
  have hmask : Row.convDone.maskWord = layout 0xFF#8 0xFF#8 0xFC#8 0#8 := by decide
  rw [hmask, Row.fixedMask, Row.matchWord_eq_layout, and_layout_eq_layout_iff, and_layout_eq_layout_iff, aField_and_iff]
  simp [Row.aZeros, Row.bZeros, and_assoc]

/-- The masks of the map decide a word's row when samples have 10 bits (R85 to R88). -/
theorem and_maskWord_iff {c : Config} {w : Word} {r : Row} (hc : c.adcBits = 10) :
    w &&& r.maskWord = r.matchWord ↔ w &&& r.fixedMask = r.matchWord ∧ (r.term w).wellFormed c = true := by
  cases r
  case convDone => simp [Row.maskWord_convDone_iff, Row.term, Instr.wellFormed, hc]
  all_goals
    rw [Row.fixedMask_eq_maskWord (by nofun)]
    exact (and_iff_left rfl).symm

/-! ## Fields of a word as numbers -/

theorem toNat_opField (w : Word) : (opField w).toNat = w.toNat / 2 ^ 24 := by
  rw [opField, BitVec.extractLsb'_toNat, Nat.shiftRight_eq_div_pow]
  omega

/-- `CONV_DONE`'s upper half is its opcode and a zero field `c` (R80, R86). -/
theorem upper_half_convDone_iff {w : Word} :
    w.extractLsb' 16 16 = 0x8100#16 ↔ w &&& Row.convDone.fixedMask = Row.convDone.matchWord := by
  have hhalf : w.extractLsb' 16 16 = 0x8100#16 ↔ opField w = 0x81#8 ∧ cField w = 0#8 := by
    simp only [BitVec.toNat_eq, opField, cField, BitVec.extractLsb'_toNat, Nat.shiftRight_eq_div_pow,
      BitVec.toNat_ofNat]
    omega
  rw [hhalf, Row.fixedMask, Row.matchWord_eq_layout, and_layout_eq_layout_iff]
  simp [Row.opcode, Row.aZeros, Row.bZeros]

/-- An `RD` by its upper 24 bits (R83, R88). -/
theorem decode_rd {c : Config} {w : Word} (h : w.extractLsb' 8 24 = 0x060000#24) :
    decode c w = .instr (.rd (bField w)) := by
  have hfields : opField w = 0x06#8 ∧ cField w = 0#8 ∧ aField w = 0#8 := by
    simp only [BitVec.toNat_eq, opField, cField, aField, BitVec.extractLsb'_toNat, Nat.shiftRight_eq_div_pow,
      BitVec.toNat_ofNat] at h ⊢
    omega
  obtain ⟨ho, hc, ha⟩ := hfields
  exact decode_eq_instr_iff.2 ⟨layout_eq_iff.2 ⟨ho, hc, ha, rfl⟩, rfl⟩

/-- A word that is read as a term has its row's opcode (R83, R84). -/
theorem opField_of_decode {c : Config} {w : Word} {i : Instr} (h : decode c w = .instr i) :
    opField w = i.row.opcode := by
  obtain ⟨rfl, -⟩ := decode_eq_instr_iff.1 h
  cases i <;> exact opField_layout _ _ _ _

/-- The opcodes of the map (R92). -/
theorem Row.opcode_range (r : Row) :
    (1 ≤ r.opcode.toNat ∧ r.opcode.toNat ≤ 6) ∨ (0x80 ≤ r.opcode.toNat ∧ r.opcode.toNat ≤ 0x84) := by
  cases r <;> decide

/-- A word with an opcode outside the map is read as no term. -/
theorem decode_ne_instr_of_reserved {c : Config} {w : Word}
    (h : w.toNat / 2 ^ 24 = 0 ∨ (0x07 ≤ w.toNat / 2 ^ 24 ∧ w.toNat / 2 ^ 24 ≤ 0x7F) ∨ 0x85 ≤ w.toNat / 2 ^ 24)
    (i : Instr) : decode c w ≠ .instr i := by
  intro hd
  have := i.row.opcode_range
  rw [← opField_of_decode hd, toNat_opField] at this
  omega

/-- Bit 31 is the opcode's top bit (R80). -/
theorem msb_eq_decide_opcode (w : Word) : w.msb = decide (0x80 ≤ w.toNat / 2 ^ 24) := by
  rw [← msb_opField, BitVec.msb_eq_decide, toNat_opField]

end Sys2Proof

namespace Sys2Proof.Machine

/-! ## Words that spell nothing -/

/-- A host word that spells no command goes to the answer of R90. -/
theorem step_of_noCommand {s : State} {w : Word} {rest : List Word} (hc : configValid s.cfg = true)
    (hs : s.stimuli = w :: rest) (hd : decode s.cfg w = .noCommand) :
    step s = execNoCommand { s with stimuli := rest } := by
  simp [step, fetch, hc, hs, hd]

/-- An event word that matches no row is no stimulus (R91). -/
theorem step_of_notStimulus {s : State} {w : Word} {rest : List Word} (hc : configValid s.cfg = true)
    (hs : s.stimuli = w :: rest) (hd : decode s.cfg w = .notStimulus) : step s = .refused .notStimulus := by
  simp [step, fetch, hc, hs, hd]

/-- The selectors of the map end at 0x12 (R161, R163). -/
theorem selectorValue_of_undefined {sel : Byte} (h : 0x13 ≤ sel.toNat) (s : State) : selectorValue s sel = none := by
  have named {k : Byte} (hk : k.toNat < 0x13) : sel ≠ k := by
    rintro rfl
    omega
  unfold selectorValue
  iterate 19 refine (if_neg (named (by decide))).trans ?_
  rfl

theorem readResponse_of_undefined {sel : Byte} (h : 0x13 ≤ sel.toNat) (s : State) :
    readResponse sel s = notExecuted := by
  simp [readResponse, selectorValue_of_undefined h]

/-- A host word that spells nothing, or reads an undefined selector, is answered as not executed when it is admitted
(R90, R163). -/
theorem step_of_illegal_host_word {s : State} {w : Word} {rest : List Word} (hc : configValid s.cfg = true)
    (hs : s.stimuli = w :: rest) (hm : w.msb = false)
    (h : (∀ i, decode s.cfg w ≠ .instr i) ∨ (w.extractLsb' 8 24 = 0x060000#24 ∧ 0x13 ≤ (bField w).toNat)) :
    step s = whenReady { s with stimuli := rest } (State.respond { s with stimuli := rest } notExecuted) := by
  rcases h with hno | ⟨hrd, hsel⟩
  · exact step_of_noCommand hc hs (decode_eq_noCommand hm hno)
  · rw [step_of_instr hc hs (decode_rd hrd), exec_command rfl, effect, readResponse_of_undefined hsel]

end Sys2Proof.Machine

namespace Sys2Proof.Safety

open Sys2Proof.Machine

/-! ## Every command is answered once -/

theorem commandsTaken_respond (s : State) (w : Word) :
    commandsTaken (s.respond w) = s.out.countP isResponse + 1 := by
  simp [commandsTaken, outstanding, isResponse]

theorem commandsTaken_of_ready {s : State} (h : s.hostOp = .none) : commandsTaken s = s.out.countP isResponse := by
  simp [commandsTaken, outstanding, h]

theorem commandsTaken_of_busy {s : State} (h : s.hostOp ≠ .none) :
    commandsTaken s = s.out.countP isResponse + 1 := by
  cases ho : s.hostOp
  case none => exact absurd ho h
  all_goals simp [commandsTaken, outstanding, ho]

theorem commandsTaken_congr {s t : State} (hout : t.out.countP isResponse = s.out.countP isResponse)
    (ho : t.hostOp = s.hostOp) : commandsTaken t = commandsTaken s := by
  rw [commandsTaken, commandsTaken, hout, ho]

/-- An event that is no response leaves the count as it is. -/
theorem countP_emit {s : State} {e : OutEvent} (h : isResponse e = false) :
    (s.emit e).out.countP isResponse = s.out.countP isResponse := by
  simp [h]

theorem commandsTaken_ready {status : Byte} {s : State} (h : PortInv s) :
    commandsTaken (ready status s) = commandsTaken s := by
  have busy (hp : s.twPhase ≠ .idle) : commandsTaken s = s.out.countP isResponse + 1 :=
    commandsTaken_of_busy (by rw [h.bus.1 hp]; nofun)
  rcases ready_cases status s with ⟨-, k⟩ | ⟨-, -, k⟩ | ⟨-, -, k⟩ | ⟨hp, -, k⟩ | ⟨hp, e, -, k⟩ <;> rw [k]
  · exact commandsTaken_congr (countP_emit rfl) rfl
  · exact commandsTaken_congr (countP_emit rfl) rfl
  · rw [commandsTaken_respond, busy (by simp [hp])]
    exact congrArg (· + 1) (countP_emit rfl)
  · rw [busy hp]
    exact commandsTaken_respond _ _

theorem commandsTaken_busTimeout {s : State} (h : PortInv s) : commandsTaken (busTimeout s) = commandsTaken s := by
  rcases busTimeout_cases s with ⟨-, k⟩ | ⟨hp, n, -, ⟨-, k⟩ | ⟨-, k⟩⟩ <;> rw [k]
  · rw [commandsTaken_of_busy (s := s) (by rw [h.bus.1 hp]; nofun)]
    exact commandsTaken_respond _ _
  · exact commandsTaken_congr rfl rfl

/-- The pump answers a send only, and the send is then no longer owed (R147). -/
theorem commandsTaken_pump (s : State) : commandsTaken (pump s) = commandsTaken s := by
  rcases pump_cases s with k | ⟨hsend, -, b, q, -, ⟨-, k⟩ | ⟨-, k⟩⟩ <;> rw [k]
  · have busy : s.hostOp ≠ .none := by rcases hsend with ho | ho <;> simp [ho]
    rw [commandsTaken_respond, commandsTaken_of_busy busy]
    exact congrArg (· + 1) (countP_emit rfl)
  · exact commandsTaken_congr (countP_emit rfl) rfl

theorem countP_driveAdcEnable (v : Bool) (s : State) :
    (driveAdcEnable v s).out.countP isResponse = s.out.countP isResponse := by
  unfold driveAdcEnable
  split
  · exact countP_emit rfl
  · rfl

/-- A send that is accepted is owed its response, or has it already (R146, R149). -/
theorem commandsTaken_beginSend {op : HostOp} (bytes : List Byte) (s : State) (hop : op = .tx ∨ op = .line) :
    commandsTaken (beginSend op bytes s) = s.out.countP isResponse + 1 := by
  have busy : op ≠ .none := by rcases hop with rfl | rfl <;> nofun
  exact (commandsTaken_pump _).trans (commandsTaken_of_busy busy)

theorem commandsTaken_startWrite (dev : BitVec 7) (byte : Byte) (s : State) :
    commandsTaken (startWrite dev byte s) = s.out.countP isResponse + 1 :=
  (commandsTaken_of_busy (by nofun)).trans (congrArg (· + 1) (countP_emit rfl))

theorem commandsTaken_startConversion (s : State) :
    commandsTaken (startConversion s) = s.out.countP isResponse + 1 := by
  rw [startConversion, commandsTaken_respond, ← countP_driveAdcEnable true s]
  exact congrArg (· + 1) (countP_emit rfl)

theorem commandsTaken_sendLine (s : State) : commandsTaken (sendLine s) = s.out.countP isResponse + 1 := by
  unfold sendLine
  split
  · exact commandsTaken_beginSend _ _ (.inr rfl)
  · exact commandsTaken_respond _ _

theorem commandsTaken_pollReceive (s : State) : commandsTaken (pollReceive s) = s.out.countP isResponse + 1 := by
  unfold pollReceive
  split <;> exact commandsTaken_respond _ _

/-- A command that is accepted is answered, or owed its answer. -/
theorem commandsTaken_effect_command {i : Instr} {s : State} (hi : i.isEvent = false) (hready : s.hostOp = .none) :
    commandsTaken (effect i s) = commandsTaken s + 1 := by
  rw [commandsTaken_of_ready hready]
  cases i <;> cases hi
  case twWrite dev byte => exact commandsTaken_startWrite dev byte s
  case adcStart => exact commandsTaken_startConversion s
  case serTx byte => exact commandsTaken_beginSend _ s (.inl rfl)
  case serLine => exact commandsTaken_sendLine s
  case serRxpoll => exact commandsTaken_pollReceive s
  case rd sel => exact commandsTaken_respond _ _

/-- An event that answers a command ends it, and no event starts one. -/
theorem commandsTaken_effect_event {i : Instr} {s : State} (hi : i.isEvent = true) (h : PortInv s) :
    commandsTaken (effect i s) = commandsTaken s := by
  cases i <;> cases hi
  case tick raw =>
    exact (commandsTaken_busTimeout (portInv_dteStep h)).trans
      (commandsTaken_congr (congrArg _ (dteStep_out raw s)) (dteStep_hostOp raw s))
  case convDone sample => exact commandsTaken_congr (countP_driveAdcEnable false _) (driveAdcEnable_hostOp false _)
  case twReady status => exact commandsTaken_ready h
  case serTxe => exact commandsTaken_pump _
  case serRx byte => rfl

/-- A step's word is a command that is answered or owed its answer, or an event that does neither (R80, R89). -/
theorem commandsTaken_step {s t : State} {w : Word} {rest : List Word} (hp : PortInv s) (h : step s = .next t)
    (hs : s.stimuli = w :: rest) : commandsTaken t = commandsTaken s + (if w.msb then 0 else 1) := by
  obtain ⟨-, w', rest', hs', hran⟩ := step_next h
  cases hs.symm.trans hs'
  have consumed : PortInv { s with stimuli := rest } := hp.of_same rfl rfl rfl rfl rfl rfl
  rcases hran with ⟨i, hd, hx⟩ | ⟨hd, hx⟩
  · obtain ⟨rfl, hadmit⟩ := exec_next hx
    rw [msb_of_decode hd]
    cases hi : i.isEvent
    · exact commandsTaken_effect_command hi (hadmit hi)
    · exact commandsTaken_effect_event hi consumed
  · obtain ⟨hready, rfl⟩ := whenReady_next hx
    rw [msb_of_decode_eq_noCommand hd, commandsTaken_of_ready (s := s) hready]
    exact commandsTaken_respond _ _

end Sys2Proof.Safety

namespace Sys2Proof.Machine

/-! ## The wire-level view -/

/-- The view of a step drives the ports by the events the step emitted. -/
theorem portsOut_of_append {s t : State} {es : List OutEvent} (h : t.out = s.out ++ es) :
    portsOut s t = es.foldl drivePort (levels t) := by
  rw [portsOut, h, List.drop_left]

theorem portsOut_self (s : State) : portsOut s s = levels s :=
  portsOut_of_append (List.append_nil _).symm

theorem exec_twWrite_of_idle {s : State} (dev : BitVec 7) (byte : Byte) (h : s.hostOp = .none) :
    exec (.twWrite dev byte) s = .next (startWrite dev byte s) :=
  (exec_command rfl s).trans (whenReady_of_idle h)

/-- An accepted write requests START and takes the command port (R94, R102). -/
theorem portsOut_startWrite (dev : BitVec 7) (byte : Byte) (s : State) :
    (portsOut s (startWrite dev byte s)).twReq = 1#2 ∧ (portsOut s (startWrite dev byte s)).cmdReady = false := by
  rw [portsOut_of_append (s := s) (es := [.twStart]) rfl]
  exact ⟨rfl, rfl⟩

section
variable {s : State} {p : PortsIn s.cfg} (order : EdgeOrder p) (hc : configValid s.cfg = true)
include hc

theorem clockEdge_rst (hr : p.rst = true) : clockEdge s p order = .next (State.resetWith s.cfg) := by
  simp [clockEdge, hc, hr]

/-- Without `rst` an edge offers its stimuli one after another. -/
theorem clockEdge_running (hr : p.rst = false) : clockEdge s p order = .next (order.val.foldl (offer p) s) := by
  simp [clockEdge, hc, hr]

theorem clockEdge_nothing (hr : p.rst = false) (hp : p.presented = []) : clockEdge s p order = .next s := by
  have horder : order.val = [] := List.perm_nil.1 (hp ▸ order.property)
  rw [clockEdge_running order hc hr, horder]
  rfl

theorem clockEdge_offer (hr : p.rst = false) {x : PortStimulus} (hp : p.presented = [x]) :
    clockEdge s p order = .next (offer p s x) := by
  have horder : order.val = [x] := List.perm_singleton.1 (hp ▸ order.property)
  rw [clockEdge_running order hc hr, horder]
  rfl

/-- An edge with one stimulus is its step, if there is one. -/
theorem clockEdge_single (hr : p.rst = false) {x : PortStimulus} (hp : p.presented = [x]) {t : State}
    (htake : takeStimulus p x s = .next t) : clockEdge s p order = .next t := by
  rw [clockEdge_offer order hc hr hp, offer, htake]

/-- An edge with a command alone is its step when it is admitted, and otherwise does not consume it (R82). -/
theorem clockEdge_command (hr : p.rst = false) {i : Instr} (hp : p.presented = [.command])
    (hm : p.cmdWord.msb = false) (hd : decode s.cfg p.cmdWord = .instr i) :
    clockEdge s p order = if s.hostOp = .none then exec i s else .next s := by
  have htake : takeStimulus p .command s = exec i s := by simp [takeStimulus, takeCommand, hm, hd]
  rw [exec_command ((msb_of_decode hd).symm.trans hm)] at htake ⊢
  split
  · rw [whenReady_of_idle ‹_›] at htake ⊢
    exact clockEdge_single order hc hr hp htake
  · rw [clockEdge_offer order hc hr hp, offer, htake, whenReady_of_busy ‹_›]

end

/-- A sample of the sampler's own width is the operand of a `CONV_DONE`, where it fits the word (R86, R94). -/
theorem takeStimulus_adcDone {s : State} (p : PortsIn s.cfg) (hbits : s.cfg.adcBits ≤ 16) :
    (Instr.convDone (p.adcData.setWidth 16)).wellFormed s.cfg = true ∧
      takeStimulus p .adcDone s = exec (.convDone (p.adcData.setWidth 16)) s := by
  have hsample : (p.adcData.setWidth 16).toNat = p.adcData.toNat := BitVec.toNat_setWidth_of_le hbits
  have hw : (Instr.convDone (p.adcData.setWidth 16)).wellFormed s.cfg = true := by
    simp [Instr.wellFormed, hsample, p.adcData.isLt]
  rw [exec_event rfl, if_pos hw, effect, hsample]
  exact ⟨hw, rfl⟩

/-- The levels last shown are those of the state an edge leaves. -/
theorem edgeOutputs_getLast {s t : State} {p : PortsIn s.cfg} (order : EdgeOrder p)
    (h : clockEdge s p order = .next t) :
    ∃ shown, (edgeOutputs s p order).getLast? = some shown ∧ shown.cmdReady = decide (t.hostOp = .none) ∧
      shown.outMode = t.outMode ∧ shown.outRatio = t.outRatio := by
  unfold clockEdge at h
  split at h
  · cases h
    unfold edgeOutputs
    split
    · exact ⟨_, rfl, rfl, rfl, rfl⟩
    · split
      next horder =>
        rw [horder]
        exact ⟨_, rfl, rfl, rfl, rfl⟩
      next horder => exact offerOutputs_getLast p order.val s horder
  · cases h

end Sys2Proof.Machine

namespace Sys2Proof.Proofs

open Sys2Proof.Machine Sys2Proof.Safety

/-! ## The obligations -/

/-- Settles O1: the decoder finds the row's zeros zero, and the operands where the encoder put them. -/
theorem decodeEncodeRoundTrip : Obligations.DecodeEncodeRoundTrip := by
  unfold Obligations.DecodeEncodeRoundTrip
  intro c i h
  exact decode_encode h

/-- Settles O2: each branch of the decoder fixes the fields that carry no operand, and reads the others whole. -/
theorem encodeDecodeRoundTrip : Obligations.EncodeDecodeRoundTrip := by
  unfold Obligations.EncodeDecodeRoundTrip
  intro c w i h
  exact decode_eq_instr_iff.1 h

/-- Settles O3: with 10-bit samples the printed mask leaves out the operand's bits and nothing else. -/
theorem decodeAgreesWithMaskAndMatch : Obligations.DecodeAgreesWithMaskAndMatch := by
  unfold Obligations.DecodeAgreesWithMaskAndMatch
  intro c w r hc
  rw [exists_decode_row_iff, and_maskWord_iff hc]

/-- Settles O4, by the row's mask and match. -/
theorem twWriteOperandAssembly : Obligations.TwWriteOperandAssembly := by
  unfold Obligations.TwWriteOperandAssembly
  intro c w dev byte
  rw [decode_eq_instr_iff_maskWord (by nofun), ← dev_field]
  simp [Instr.row, Row.maskWord, Row.matchWord, Row.term, bField]

/-- Settles O5: the mask without the sample's bits is the upper half, and 10-bit samples lengthen it. -/
theorem convDoneOperandAssembly : Obligations.ConvDoneOperandAssembly := by
  unfold Obligations.ConvDoneOperandAssembly
  intro c w
  have hread (n : BitVec 16) : decode c w = .instr (.convDone n) ↔
      w.extractLsb' 16 16 = 0x8100#16 ∧ n = w.extractLsb' 0 16 ∧ n.toNat < 2 ^ c.adcBits := by
    rw [decode_eq_instr_iff_fixedMask, upper_half_convDone_iff]
    simp [Instr.row, Row.term, Instr.wellFormed, payload, and_assoc]
  refine ⟨hread, fun hc => ?_⟩
  have hmask : w &&& 0xFFFFFC00#32 = 0x81000000#32 ↔
      w.extractLsb' 16 16 = 0x8100#16 ∧ (w.extractLsb' 0 16).toNat < 2 ^ 10 :=
    Row.maskWord_convDone_iff.trans (and_congr_left' upper_half_convDone_iff.symm)
  simp only [hread, hmask, hc, exists_and_left, exists_eq_left]

/-- Settles O6, by the row's mask and match. -/
theorem tickOperandAssembly : Obligations.TickOperandAssembly := by
  unfold Obligations.TickOperandAssembly
  intro c w raw
  rw [decode_eq_instr_iff_maskWord (by nofun), ← level_field]
  simp [Instr.row, Row.maskWord, Row.matchWord, Row.term]

/-- Settles O7, by each row's mask and match. -/
theorem byteOperandAssembly : Obligations.ByteOperandAssembly := by
  unfold Obligations.ByteOperandAssembly
  intro c w b
  have hread {i : Instr} (h : i.row ≠ .convDone) := decode_eq_instr_iff_maskWord (c := c) (w := w) h
  refine ⟨?_, ?_, ?_, ?_, ?_, ?_, ?_, ?_⟩
  all_goals
    rw [hread (by nofun)]
    simp [Instr.row, Row.maskWord, Row.matchWord, Row.term, bField, word_and_ones]

/-- Settles O9: the opcode is no row's, so the word is rejected, under the name that bit 31 gives. -/
theorem reservedOpcodesHaveNoMeaning : Obligations.ReservedOpcodesHaveNoMeaning := by
  unfold Obligations.ReservedOpcodesHaveNoMeaning
  intro c w
  constructor
  · intro h
    have hm : w.msb = false := (msb_eq_decide_opcode w).trans (decide_eq_false (by omega))
    exact decode_eq_noCommand hm (decode_ne_instr_of_reserved (by omega))
  · intro h
    have hm : w.msb = true := (msb_eq_decide_opcode w).trans (decide_eq_true (by omega))
    exact decode_eq_notStimulus hm (decode_ne_instr_of_reserved (.inr (.inr h)))

/-- Settles O11: both kinds of word come to the answer of R90, which the command port admits or refuses. -/
theorem illegalHostWordAnswered : Obligations.IllegalHostWordAnswered := by
  unfold Obligations.IllegalHostWordAnswered
  intro s w rest hc hs hm h
  rw [step_of_illegal_host_word hc hs hm h]
  constructor
  · intro hready
    exact (whenReady_of_idle hready).trans (congrArg _ (respond_of_idle _ hready))
  · exact whenReady_of_busy

/-- Settles O12: the decoder rejects the word under R91's name, and the fetch refuses it. -/
theorem illegalEventWordRefused : Obligations.IllegalEventWordRefused := by
  unfold Obligations.IllegalEventWordRefused
  intro s w rest hc hs hm h
  exact step_of_notStimulus hc hs (decode_eq_notStimulus hm h)

/-- Settles O13: a command goes through the command port, and an event through none. -/
theorem admissionOfStimuli : Obligations.AdmissionOfStimuli := by
  unfold Obligations.AdmissionOfStimuli
  intro i s hw
  refine ⟨fun hi => ⟨effect i s, ?_⟩, fun hi hready => ⟨effect i s, ?_⟩, fun hi hbusy => ?_⟩
  · rw [exec_event hi, if_pos hw]
  · rw [exec_command hi, whenReady_of_idle hready]
  · rw [exec_command hi, whenReady_of_busy hbusy]

/-- Settles O55: a command is answered or owed its answer, and an event that answers one finds it outstanding. -/
theorem everyCommandAnsweredOnce : Obligations.EveryCommandAnsweredOnce := by
  unfold Obligations.EveryCommandAnsweredOnce
  intro s t w rest hp h hs
  exact commandsTaken_step hp h hs

/-- Settles O8: each word is its term's word, and the one sample is in range. -/
theorem specWordsDecode : Obligations.SpecWordsDecode := by
  unfold Obligations.SpecWordsDecode
  intro c hc
  simp only [decode_eq_instr_iff, Instr.wellFormed, hc]
  decide

/-- Settles O58: the view is the levels with a strobe for each event emitted, and an edge is the fold of its stimuli. -/
theorem portsShowTheState : Obligations.PortsShowTheState := by
  unfold Obligations.PortsShowTheState
  intro s p order i
  rw [portsOut_self]
  refine ⟨decide_eq_true_iff, rfl, rfl, rfl, rfl, fun dev byte hready => ?_, fun hc => ⟨fun hr => ?_, fun hr => ?_, ?_⟩⟩
  · exact ⟨_, exec_twWrite_of_idle dev byte hready, portsOut_startWrite dev byte s⟩
  · exact ⟨clockEdge_rst order hc hr, if_pos hr⟩
  · have event {x : PortStimulus} {i : Instr} (hp : p.presented = [x]) (hi : i.isEvent = true)
        (hw : i.wellFormed s.cfg = true) (htake : takeStimulus p x s = exec i s) : clockEdge s p order = exec i s := by
      rw [exec_event hi, if_pos hw] at htake ⊢
      exact clockEdge_single order hc hr hp htake
    refine ⟨clockEdge_nothing order hc hr, clockEdge_command order hc hr, fun hp => ?_, fun hp => ?_, fun hp => ?_,
      fun hp => ?_, fun hp hbits => ?_⟩
    · exact event hp rfl rfl rfl
    · exact event hp rfl rfl rfl
    · exact event hp rfl rfl rfl
    · exact event hp rfl rfl rfl
    · obtain ⟨hw, htake⟩ := takeStimulus_adcDone p hbits
      exact event hp rfl hw htake
  · intro t ht
    exact edgeOutputs_getLast order ht

end Sys2Proof.Proofs
end

section
/-! Proofs of the bus master's obligations (40_twm_bus_master.md): what accepts a write and what each ready does (R101
to R106), an answered transaction from START to its response (R100), a failed one (R107, R190), and one that is never
answered, with a timeout and without (R108, R109). -/

namespace Sys2Proof.Machine

/-! ## Runs and the words of terms -/

theorem run_succ {M : Host.Core} {s t : M.State} {k : Nat} (h : M.step s = .next t) : M.run (k + 1) s = M.run k t := by
  simp [Host.Core.run, h]

/-- A run goes on from the state its first steps reach. -/
theorem run_add {M : Host.Core} {s t : M.State} {j : Nat} (h : M.run j s = .next t) (k : Nat) :
    M.run (j + k) s = M.run k t := by
  induction j generalizing s with
  | zero =>
    cases h
    rw [Nat.zero_add]
  | succ j ih =>
    rw [Nat.succ_add]
    cases hs : M.step s with
    | next u =>
      rw [run_succ hs] at h ⊢
      exact ih h
    | fault r => simp [Host.Core.run, hs] at h
    | refused r => simp [Host.Core.run, hs] at h

/-- The word of a well-formed term runs the term. -/
theorem step_of_encode {s : State} {i : Instr} {rest : List Word} (hc : configValid s.cfg = true)
    (hs : s.stimuli = encode i :: rest) (hw : i.wellFormed s.cfg = true) :
    step s = exec i { s with stimuli := rest } :=
  step_of_instr hc hs (decode_encode hw)

/-- A run whose oldest word is a term's goes on from the state the term leaves. -/
theorem run_encode {s t : State} {i : Instr} {rest : List Word} {k : Nat} (hc : configValid s.cfg = true)
    (hs : s.stimuli = encode i :: rest) (hw : i.wellFormed s.cfg = true)
    (hx : exec i { s with stimuli := rest } = .next t) :
    Host.Core.run Sys2Proof.core (k + 1) s = Host.Core.run Sys2Proof.core k t :=
  run_succ (M := Sys2Proof.core) ((step_of_encode hc hs hw).trans hx)

theorem step_of_tick {s : State} {raw : Bool} {rest : List Word} (hc : configValid s.cfg = true)
    (hs : s.stimuli = encode (.tick raw) :: rest) : step s = .next (tickStep raw { s with stimuli := rest }) :=
  step_of_encode hc hs rfl

/-! ## A ready in each phase -/

section
variable {s : State} (status : Byte)

theorem exec_twReady_of_idle (h : s.twPhase = .idle) : exec (.twReady status) s = .next s := by
  simp [exec, execTwReady, ready, h]

theorem exec_twReady_of_wStart (h : s.twPhase = .wStart) : exec (.twReady status) s = .next (readyStart status s) := by
  simp [exec, execTwReady, ready, h]

theorem exec_twReady_of_wAddr (h : s.twPhase = .wAddr) : exec (.twReady status) s = .next (readyAddr status s) := by
  simp [exec, execTwReady, ready, h]

theorem exec_twReady_of_wData (h : s.twPhase = .wData) : exec (.twReady status) s = .next (readyData status s) := by
  simp [exec, execTwReady, ready, h]

end

/-- STOP and the answer stand in this order in the trace, in one step (R105). -/
theorem stop_respond (s : State) (w : Word) :
    { s.emit .twStop with twPhase := .idle }.respond w =
      { s with out := s.out ++ [.twStop, .rsp w], twPhase := .idle, hostOp := .none } := by
  simp [State.respond, State.emit]

/-- The device address stands one bit above the direction bit (R101). -/
theorem toNat_addressByte (addr : BitVec 7) (writeBit : BitVec 1) :
    (addressByte addr writeBit).toNat = 2 * addr.toNat + writeBit.toNat := by
  rw [addressByte, BitVec.toNat_append, ← Nat.shiftLeft_add_eq_or_of_lt writeBit.isLt, Nat.shiftLeft_eq]
  omega

/-! ## How a write ends in an error -/

theorem busErrorCode_range (e : BusError) : 1 ≤ (busErrorCode e).toNat ∧ (busErrorCode e).toNat ≤ 4 := by
  cases e <;> decide

/-- From `s` to `t` the transaction ended in the error `e`: its code is the one event, bus and host port are free
(R107, R190). -/
structure FailedWith (e : BusError) (s t : State) : Prop where
  twPhase : t.twPhase = .idle
  hostOp : t.hostOp = .none
  out : t.out = s.out ++ [.rsp (busErrorCode e)]

theorem failedWith_raiseBusError (e : BusError) (s : State) : FailedWith e s (s.raiseBusError e) := ⟨rfl, rfl, rfl⟩

/-- From `s` to `t` no response with an error code came out. -/
def NoErrorAnswered (s t : State) : Prop :=
  ∃ es, t.out = s.out ++ es ∧ ∀ code, .rsp code ∈ es → code = 0#32

/-- An error code among the events rules out the steps that answer no error. -/
theorem NoErrorAnswered.code_eq_zero {s t : State} {es : List OutEvent} {code : Word} (h : NoErrorAnswered s t)
    (hout : t.out = s.out ++ es) (hmem : .rsp code ∈ es) : code = 0#32 := by
  obtain ⟨es', hout', hzero⟩ := h
  obtain rfl : es' = es := List.append_cancel_left (hout'.symm.trans hout)
  exact hzero code hmem

/-- A ready fails the transaction, or answers no error: what it emits otherwise is a byte, or STOP and success. -/
theorem ready_failedWith_or_noErrorAnswered (status : Byte) (s : State) :
    (∃ e, FailedWith e s (ready status s)) ∨ NoErrorAnswered s (ready status s) := by
  rcases ready_cases status s with ⟨-, k⟩ | ⟨-, -, k⟩ | ⟨-, -, k⟩ | ⟨-, -, k⟩ | ⟨-, e, -, k⟩ <;> rw [k]
  · exact .inr ⟨[], by simp, by simp⟩
  · exact .inr ⟨[.twSend _], rfl, by simp⟩
  · exact .inr ⟨[.twSend _], rfl, by simp⟩
  · rw [stop_respond]
    exact .inr ⟨[.twStop, .rsp 0#32], rfl, by simp⟩
  · exact .inl ⟨e, failedWith_raiseBusError e s⟩

/-! ## Steps beside the transaction -/

/-- From `s` to `t` the transaction stands still: the phase, the operands and the host port are as before, and what
came out is no response. -/
structure TransactionSame (s t : State) : Prop where
  twPhase : t.twPhase = s.twPhase
  hostOp : t.hostOp = s.hostOp
  twAddr : t.twAddr = s.twAddr
  twData : t.twData = s.twData
  out : ∃ es, t.out = s.out ++ es ∧ ∀ w, .rsp w ∉ es

theorem TransactionSame.of_out_same {s t : State} (hphase : t.twPhase = s.twPhase) (hhost : t.hostOp = s.hostOp)
    (haddr : t.twAddr = s.twAddr) (hdata : t.twData = s.twData) (hout : t.out = s.out) : TransactionSame s t :=
  ⟨hphase, hhost, haddr, hdata, [], by simp [hout], by simp⟩

theorem TransactionSame.noErrorAnswered {s t : State} (h : TransactionSame s t) : NoErrorAnswered s t := by
  obtain ⟨es, hout, hno⟩ := h.out
  exact ⟨es, hout, fun code hmem => absurd hmem (hno code)⟩

theorem transactionSame_captureSample (sample : Nat) (s : State) : TransactionSame s (captureSample sample s) := by
  unfold captureSample driveAdcEnable
  split
  · exact ⟨rfl, rfl, rfl, rfl, [.adcEn false], rfl, by simp⟩
  · exact .of_out_same rfl rfl rfl rfl rfl

/-- A tick lets the transaction stand, or times it out where the parameter sets a timeout (R108, R109). -/
theorem tickStep_transactionSame_or_failedWith (raw : Bool) (s : State) :
    TransactionSame s (tickStep raw s) ∨ (s.cfg.twTimeout ≠ none ∧ FailedWith .timeout s (tickStep raw s)) := by
  have counted := dteStep_frame raw s
  unfold tickStep
  rcases busTimeout_cases (dteStep raw s) with ⟨-, k⟩ | ⟨-, n, hn, ⟨-, k⟩ | ⟨-, k⟩⟩ <;> rw [k]
  · exact .inl (.of_out_same counted.twPhase counted.hostOp counted.twAddr counted.twData counted.out)
  · rw [counted.cfg] at hn
    exact .inr ⟨by simp [hn], rfl, rfl, by simp⟩
  · exact .inl (.of_out_same counted.twPhase counted.hostOp counted.twAddr counted.twData counted.out)

/-- All that can be admitted while a write is outstanding: a ready, or an event that lets the transaction stand, or the
tick at which it times out. -/
theorem exec_next_of_outstanding_write {i : Instr} {s t : State} (ho : s.hostOp = .tw) (h : exec i s = .next t) :
    (∃ status, i = .twReady status ∧ t = ready status s) ∨ TransactionSame s t ∨
      (s.cfg.twTimeout ≠ none ∧ FailedWith .timeout s t) := by
  obtain ⟨rfl, hadmit⟩ := exec_next h
  have event : i.isEvent = true := by
    by_contra hi
    cases ho.symm.trans (hadmit (by simpa using hi))
  cases i <;> cases event
  case tick raw => exact .inr (tickStep_transactionSame_or_failedWith raw s)
  case convDone sample => exact .inr (.inl (transactionSame_captureSample sample.toNat s))
  case twReady status => exact .inl ⟨status, rfl, rfl⟩
  case serTxe =>
    have still : pump { s with serTxe := true } = { s with serTxe := true } := pump_of_idle (by simp [ho])
    rw [effect, still]
    exact .inr (.inl (.of_out_same rfl rfl rfl rfl rfl))
  case serRx byte => exact .inr (.inl (.of_out_same rfl rfl rfl rfl rfl))

/-! ## Ticks while a phase is unanswered -/

/-- A phase is outstanding under a timeout of `n` ticks that the wait counter can reach (R108; log entry 18). -/
structure Unanswered (n : Nat) (s : State) : Prop where
  config : configValid s.cfg = true
  timeout : s.cfg.twTimeout = some n
  width : n < 2 ^ s.cfg.cntW
  busy : s.twPhase ≠ .idle

/-- From `s` to `t` the phase has waited `k` ticks more, and nothing came of it. -/
structure Waited (k : Nat) (s t : State) : Prop where
  cfg : t.cfg = s.cfg
  twPhase : t.twPhase = s.twPhase
  hostOp : t.hostOp = s.hostOp
  out : t.out = s.out
  twWait : t.twWait = s.twWait + k

theorem Waited.refl (s : State) : Waited 0 s s := ⟨rfl, rfl, rfl, rfl, rfl⟩

theorem Waited.trans {j k : Nat} {s t u : State} (h : Waited j s t) (h' : Waited k t u) : Waited (k + j) s u :=
  ⟨h'.cfg.trans h.cfg, h'.twPhase.trans h.twPhase, h'.hostOp.trans h.hostOp, h'.out.trans h.out, by
    rw [h'.twWait, h.twWait]
    omega⟩

theorem Unanswered.of_waited {n k : Nat} {s t : State} (h : Unanswered n s) (hw : Waited k s t) : Unanswered n t where
  config := by rw [hw.cfg, h.config]
  timeout := by rw [hw.cfg, h.timeout]
  width := by rw [hw.cfg]; exact h.width
  busy := by rw [hw.twPhase]; exact h.busy

theorem Unanswered.timeout_pos {n : Nat} {s : State} (h : Unanswered n s) : 0 < n := by
  by_contra hn
  obtain rfl : n = 0 := by omega
  have refused := (configValid_eq_false_iff s.cfg).2 (by simp [h.timeout])
  cases h.config.symm.trans refused

section
variable {n : Nat} {s : State} {raw : Bool} {rest : List Word}

/-- Before the `n`-th tick the wait counter counts and nothing else happens to the transaction. -/
theorem step_tick_waits (h : Unanswered n s) (hs : s.stimuli = encode (.tick raw) :: rest) (hlt : s.twWait + 1 < n) :
    ∃ t, step s = .next t ∧ Waited 1 s t ∧ t.stimuli = rest := by
  have hinc : inc s.cfg s.twWait = s.twWait + 1 := inc_of_lt (hlt.trans h.width)
  refine ⟨_, step_of_tick h.config hs, ?_, effect_stimuli (.tick raw) _⟩
  have waits : tickStep raw { s with stimuli := rest } =
      { dteStep raw { s with stimuli := rest } with twWait := s.twWait + 1 } := by
    simp [tickStep, busTimeout, h.timeout, h.busy, hinc, hlt]
  rw [waits]
  constructor <;> simp

/-- The `n`-th tick ends the transaction in the error of R108. -/
theorem step_tick_times_out (h : Unanswered n s) (hs : s.stimuli = encode (.tick raw) :: rest)
    (heq : s.twWait + 1 = n) : ∃ t, step s = .next t ∧ FailedWith .timeout s t := by
  have hinc : inc s.cfg s.twWait = n := (inc_of_lt (heq.trans_lt h.width)).trans heq
  refine ⟨_, step_of_tick h.config hs, ?_⟩
  have raises : tickStep raw { s with stimuli := rest } =
      { dteStep raw { s with stimuli := rest } with twWait := n }.raiseBusError .timeout := by
    simp [tickStep, busTimeout, h.timeout, h.busy, hinc]
  rw [raises]
  constructor <;> simp

end

/-- As long as the ticks stay short of the timeout, the phase waits through all of them. -/
theorem run_ticks_waits {n : Nat} {raws : List Bool} {rest : List Word} {s : State} (h : Unanswered n s)
    (hs : s.stimuli = raws.map (fun raw => encode (.tick raw)) ++ rest) (hlt : s.twWait + raws.length < n) :
    ∃ t, Host.Core.run Sys2Proof.core raws.length s = .next t ∧ Waited raws.length s t ∧ t.stimuli = rest := by
  induction raws generalizing s with
  | nil => exact ⟨s, rfl, .refl s, hs⟩
  | cons raw raws ih =>
    rw [List.length_cons] at hlt ⊢
    obtain ⟨u, hstep, hwaited, hu⟩ := step_tick_waits h hs (by omega)
    obtain ⟨t, hrun, hrest, ht⟩ := ih (h.of_waited hwaited) hu (by rw [hwaited.twWait]; omega)
    exact ⟨t, (run_succ (M := Sys2Proof.core) hstep).trans hrun, hwaited.trans hrest, ht⟩

/-- A phase just issued waits through all ticks but the last, which ends it. -/
theorem run_ticks_times_out {n : Nat} {raws : List Bool} {rest : List Word} {s : State} (h : Unanswered n s)
    (hs : s.stimuli = raws.map (fun raw => encode (.tick raw)) ++ rest) (h0 : s.twWait = 0) (hlen : raws.length = n) :
    ∃ t, Host.Core.run Sys2Proof.core raws.length s = .next t ∧ FailedWith .timeout s t := by
  have hpos := h.timeout_pos
  obtain rfl | ⟨before, last, rfl⟩ := List.eq_nil_or_concat' raws
  · cases hlen
    cases hpos
  · rw [List.length_append, List.length_singleton] at hlen ⊢
    rw [List.map_append, List.append_assoc] at hs
    obtain ⟨u, hrun, hwaited, hu⟩ := run_ticks_waits h hs (by omega)
    obtain ⟨t, hstep, hfailed⟩ := step_tick_times_out (h.of_waited hwaited) hu (by rw [hwaited.twWait]; omega)
    exact ⟨t, (run_add hrun 1).trans (run_succ (M := Sys2Proof.core) hstep), hfailed.twPhase, hfailed.hostOp,
      by rw [hfailed.out, hwaited.out]⟩

end Sys2Proof.Machine

namespace Sys2Proof.Proofs

open Sys2Proof.Machine Sys2Proof.Safety

/-! ## The obligations -/

/-- Settles O16: the command finds the port ready, so `startWrite` is the whole step. -/
theorem twWriteAccepted : Obligations.TwWriteAccepted := by
  unfold Obligations.TwWriteAccepted
  intro s dev byte hready
  exact exec_twWrite_of_idle dev byte hready

/-- Settles O17, by the step of the START phase. -/
theorem readyAfterStart : Obligations.ReadyAfterStart := by
  unfold Obligations.ReadyAfterStart
  intro s status h
  rw [exec_twReady_of_wStart status h]
  rfl

/-- Settles O18, by the step of the address phase. -/
theorem readyAfterAddress : Obligations.ReadyAfterAddress := by
  unfold Obligations.ReadyAfterAddress
  intro s status h
  rw [exec_twReady_of_wAddr status h]
  rfl

/-- Settles O19, by the step of the data phase, in which STOP comes before the answer. -/
theorem readyAfterData : Obligations.ReadyAfterData := by
  unfold Obligations.ReadyAfterData
  intro s status h
  rw [exec_twReady_of_wData status h, readyData, stop_respond]
  rfl

/-- Settles O20, by the step with no phase outstanding. -/
theorem readyWhileIdleIgnored : Obligations.ReadyWhileIdleIgnored := by
  unfold Obligations.ReadyWhileIdleIgnored
  intro s status h
  exact exec_twReady_of_idle status h

/-- Settles O21: the byte sent is the address byte, whose value gives the layout. -/
theorem addressByteLayout : Obligations.AddressByteLayout := by
  unfold Obligations.AddressByteLayout
  intro s h
  refine ⟨_, addressByte s.twAddr s.cfg.twWriteBit, (readyAfterStart s _ h).trans (congrArg _ (if_pos rfl)), rfl,
    toNat_addressByte _ _, fun hbit => ?_⟩
  rw [hbit]
  constructor <;> intro haddr <;> rw [haddr] <;> rfl

/-- Settles O22: the four words are accepted one after another, each finding the phase the one before it left. -/
theorem answeredWriteSucceeds : Obligations.AnsweredWriteSucceeds := by
  unfold Obligations.AnsweredWriteSucceeds
  intro s dev byte rest hc hready hs
  refine (run_encode hc hs rfl (twWriteAccepted _ dev byte hready)).trans ?_
  refine Eq.trans (run_encode hc rfl rfl ((readyAfterStart _ _ rfl).trans (congrArg _ (if_pos rfl)))) ?_
  refine Eq.trans (run_encode hc rfl rfl ((readyAfterAddress _ _ rfl).trans (congrArg _ (if_pos rfl)))) ?_
  refine Eq.trans (run_encode hc rfl rfl ((readyAfterData _ _ rfl).trans (congrArg _ (if_pos rfl)))) ?_
  simp [Host.Core.run]

/-- Settles O23: a ready or the timeout fails the write as a whole, and every other step answers no error. -/
theorem failedWriteEndsAtOnce : Obligations.FailedWriteEndsAtOnce := by
  unfold Obligations.FailedWriteEndsAtOnce
  intro i s t es code ho h hout hmem hcode
  have outcome : (∃ e, FailedWith e s t) ∨ NoErrorAnswered s t := by
    rcases exec_next_of_outstanding_write ho h with ⟨status, -, rfl⟩ | hsame | ⟨-, hfailed⟩
    · exact ready_failedWith_or_noErrorAnswered status s
    · exact .inr hsame.noErrorAnswered
    · exact .inl ⟨_, hfailed⟩
  rcases outcome with ⟨e, hphase, hhost, hout'⟩ | hquiet
  · obtain rfl : es = [.rsp (busErrorCode e)] := List.append_cancel_left (hout.symm.trans hout')
    obtain rfl : code = busErrorCode e := by simpa using hmem
    exact ⟨rfl, hphase, hhost, busErrorCode_range e⟩
  · exact absurd (hquiet.code_eq_zero hout hmem) hcode

/-- Settles O24, by induction on the ticks short of the timeout, and one tick more. -/
theorem unansweredPhaseTimesOut : Obligations.UnansweredPhaseTimesOut := by
  unfold Obligations.UnansweredPhaseTimesOut
  intro s n raws rest hc hn hwidth hbusy h0 hs
  have h : Unanswered n s := ⟨hc, hn, hwidth, hbusy⟩
  constructor
  · intro hlt
    obtain ⟨t, hrun, hwaited, -⟩ := run_ticks_waits h hs (by omega)
    exact ⟨t, hrun, hwaited.twPhase, hwaited.hostOp, hwaited.out, by rw [hwaited.twWait, h0, Nat.zero_add]⟩
  · intro hlen
    obtain ⟨t, hrun, hphase, hhost, hout⟩ := run_ticks_times_out h hs h0 hlen
    exact ⟨t, hrun, hphase, hhost, hout⟩

/-- Settles O25: a phase outstanding means that the write is, and without a timeout only a ready moves it. -/
theorem unansweredWriteHangs : Obligations.UnansweredWriteHangs := by
  unfold Obligations.UnansweredWriteHangs
  intro i s t hport hnone hbusy hno h
  have ho : s.hostOp = .tw := hport.bus.1 hbusy
  rcases exec_next_of_outstanding_write ho h with ⟨status, hi, -⟩ | hsame | ⟨htimeout, -⟩
  · exact absurd hi (hno status)
  · exact ⟨hsame.twPhase, hsame.hostOp.trans ho, hsame.twAddr, hsame.twData⟩
  · exact absurd hnone htimeout

end Sys2Proof.Proofs
end

section
/-! Proofs of the timing engine's obligations (41_dte_timing_engine.md): the whole `TICK` step (R132, R108), when the
debounced flag and the mode change (R134), the periods of the window, the ratio line and the serial trigger (R123, R130,
R131, R236), and that a tick reads nothing of the bus master or the serial port (R120). -/

namespace Sys2Proof.Machine

open Sys2Proof.Safety

/-! ## Counters and thresholds -/

theorem exceeds_iff {cnt threshold : Nat} : exceeds cnt threshold = true ↔ threshold < cnt := decide_eq_true_iff

/-- A valid configuration has room in its counters for every threshold and one tick beyond it (R8). -/
theorem thresholds_fit {c : Config} (h : configValid c = true) :
    1 ≤ c.debounceWindow ∧ c.debounceWindow + 2 ≤ 2 ^ c.cntW ∧ c.serThresh + 2 ≤ 2 ^ c.cntW ∧
      ratioOf c (2 ^ c.adcBits - 1) + 2 ≤ 2 ^ c.cntW := by
  have hnot := mt (configValid_eq_false_iff c).2 (by simp [h])
  omega

theorem ratioOf_mono (c : Config) {m n : Nat} (h : m ≤ n) : ratioOf c m ≤ ratioOf c n :=
  Nat.add_le_add_right (Nat.div_le_div_right (Nat.mul_le_mul_right _ h)) _

/-- The derived period of a sample in range fits the ratio counter (R8, R129). -/
theorem ratio_fits {s : State} (h : RangeInv s) : ratio s + 2 ≤ 2 ^ s.cfg.cntW := by
  obtain ⟨-, -, -, hfit⟩ := thresholds_fit h.config
  have hle : ratio s ≤ ratioOf s.cfg (2 ^ s.cfg.adcBits - 1) := ratioOf_mono s.cfg (Nat.le_sub_one_of_lt h.sample)
  omega

/-- Up to the threshold a counter does not wrap. -/
theorem inc_of_le_threshold {c : Config} {threshold k : Nat} (hfit : threshold + 2 ≤ 2 ^ c.cntW)
    (hk : k < threshold + 1) : inc c k = k + 1 := inc_of_lt (by omega)

/-- A counter that has counted to its threshold exceeds it with the next tick, and not before. -/
theorem exceeds_succ_iff {threshold k : Nat} (hk : k < threshold + 1) :
    exceeds (k + 1) threshold = true ↔ k + 1 = threshold + 1 := by
  rw [exceeds_iff]
  omega

/-- `k` ticks into a period of `threshold + 1`: the counter has counted them and the line is as it was, or the period is
over, the counter zeroed and the line acted upon (R130, R131). -/
def PeriodCounted (threshold : Nat) (act : Bool → Bool) (before : Bool) (k : Nat) (line : Bool) (cnt : Nat) : Prop :=
  if k = threshold + 1 then line = act before ∧ cnt = 0 else line = before ∧ cnt = k

theorem periodCounted_zero (threshold : Nat) (act : Bool → Bool) (before : Bool) :
    PeriodCounted threshold act before 0 before 0 := by
  simp [PeriodCounted]

/-- One more tick of a period that is not over. -/
theorem PeriodCounted.tick {c : Config} {threshold k cnt : Nat} {act : Bool → Bool} {before line : Bool}
    (hfit : threshold + 2 ≤ 2 ^ c.cntW) (hk : k < threshold + 1)
    (h : PeriodCounted threshold act before k line cnt) :
    PeriodCounted threshold act before (k + 1) (if exceeds (inc c cnt) threshold then act line else line)
      (if exceeds (inc c cnt) threshold then 0 else inc c cnt) := by
  unfold PeriodCounted at h
  rw [if_neg hk.ne] at h
  obtain ⟨rfl, rfl⟩ := h
  simp only [inc_of_le_threshold hfit hk, exceeds_succ_iff hk, PeriodCounted]
  split <;> exact ⟨rfl, rfl⟩

/-! ## A tick as a whole -/

/-- The DTE group and the fields outside it are all of the state (R20). -/
theorem eq_of_sameDte_of_outsideDteSame {s t : State} (hdte : SameDte s t) (hout : OutsideDteSame s t) : t = s := by
  cases s
  cases t
  cases hdte
  cases hout
  simp_all

/-- The timeout writes nothing of the DTE group (R108). -/
theorem tickStep_sameDte (raw : Bool) (s : State) : SameDte (dteStep raw s) (tickStep raw s) := by
  constructor <;> simp [tickStep]

theorem tickStep_cfg (raw : Bool) (s : State) : (tickStep raw s).cfg = s.cfg := effect_cfg (.tick raw) s

theorem tickStep_stimuli (raw : Bool) (s : State) : (tickStep raw s).stimuli = s.stimuli := effect_stimuli (.tick raw) s

theorem tickStep_sample (raw : Bool) (s : State) : (tickStep raw s).sample = s.sample := by simp [tickStep]

/-- A tick now is a window boundary: the tick counter, counted, has passed the window (R123). -/
def windowEnds (s : State) : Bool := exceeds (inc s.cfg s.tickCnt) s.cfg.debounceWindow

theorem windowEnds_iff (s : State) :
    windowEnds s = true ↔ s.cfg.debounceWindow < (s.tickCnt + 1) % 2 ^ s.cfg.cntW := exceeds_iff

theorem tickStep_tickCnt (raw : Bool) (s : State) :
    (tickStep raw s).tickCnt = if windowEnds s then 0 else inc s.cfg s.tickCnt :=
  (tickStep_sameDte raw s).tickCnt.trans (dteStep_fields raw s).1

/-- The flag after a tick: at a boundary both samples, elsewhere what the last boundary left (R124, R125). -/
theorem tickStep_debounced (raw : Bool) (s : State) :
    (tickStep raw s).debounced = if windowEnds s then raw && s.prevRaw else s.reliable && s.rawSample := by
  obtain ⟨-, hreliable, hraw, -, hflag, -⟩ := dteStep_fields raw s
  rw [(tickStep_sameDte raw s).debounced, hflag, hreliable, hraw, ← windowEnds]
  cases windowEnds s
  · rfl
  · cases raw <;> cases s.prevRaw <;> rfl

/-- The mode counter counts at a boundary that leaves the flag false (R126). -/
theorem tickStep_modeCnt (raw : Bool) (s : State) :
    (tickStep raw s).modeCnt =
      if s.cfg.featMode && windowEnds s && !(tickStep raw s).debounced then inc s.cfg s.modeCnt else s.modeCnt := by
  obtain ⟨-, -, -, -, -, hmode, -⟩ := dteStep_fields raw s
  rw [(tickStep_sameDte raw s).modeCnt, (tickStep_sameDte raw s).debounced]
  exact hmode

/-- In Active the ratio counter counts to the derived period, and the line toggles when it has passed it (R130). -/
theorem tickStep_ratio_of_active {raw : Bool} {s : State} (hfeat : s.cfg.featRatio = true)
    (hmode : mode (tickStep raw s) = .active) :
    (tickStep raw s).ratioCnt = (if exceeds (inc s.cfg s.ratioCnt) (ratio s) then 0 else inc s.cfg s.ratioCnt) ∧
      (tickStep raw s).outRatio = (if exceeds (inc s.cfg s.ratioCnt) (ratio s) then !s.outRatio else s.outRatio) := by
  obtain ⟨-, -, -, -, -, -, -, hcnt, hline, -⟩ := dteStep_fields raw s
  have group := tickStep_sameDte raw s
  have hactive : mode (dteStep raw s) = .active := (mode_congr group.modeCnt).symm.trans hmode
  rw [group.ratioCnt, group.outRatio, hcnt, hline]
  simp [hfeat, hactive]

/-- In Idle the serial counter counts to its threshold, and the trigger is set when it has passed it (R131). -/
theorem tickStep_serial_of_idle {raw : Bool} {s : State} (hfeat : s.cfg.featHeartbeat = true)
    (hmode : mode (tickStep raw s) = .idle) :
    (tickStep raw s).serCnt = (if exceeds (inc s.cfg s.serCnt) s.cfg.serThresh then 0 else inc s.cfg s.serCnt) ∧
      (tickStep raw s).serTrig = (if exceeds (inc s.cfg s.serCnt) s.cfg.serThresh then true else s.serTrig) := by
  obtain ⟨-, -, -, -, -, -, -, -, -, hcnt, htrig⟩ := dteStep_fields raw s
  have group := tickStep_sameDte raw s
  have hidle : mode (dteStep raw s) = .idle := (mode_congr group.modeCnt).symm.trans hmode
  rw [group.serCnt, group.serTrig, hcnt, htrig]
  simp [hfeat, hidle]

/-! ## The timeout's part -/

/-- A phase is outstanding under a timeout, so a tick counts its wait (R108). -/
def WaitCounts (s : State) : Prop := s.cfg.twTimeout ≠ none ∧ s.twPhase ≠ .idle

/-- A phase is outstanding, and with the tick at hand it has waited as long as the timeout allows (R108). -/
def WaitExpires (s : State) : Prop := s.twPhase ≠ .idle ∧ ∃ n, s.cfg.twTimeout = some n ∧ n ≤ inc s.cfg s.twWait

theorem busTimeout_of_not_counts {s : State} (h : ¬ WaitCounts s) : busTimeout s = s := by
  rcases busTimeout_cases s with ⟨-, k⟩ | ⟨hbusy, n, hn, -⟩
  · exact k
  · exact absurd ⟨by simp [hn], hbusy⟩ h

theorem busTimeout_twWait_of_counts {s : State} (h : WaitCounts s) : (busTimeout s).twWait = inc s.cfg s.twWait := by
  obtain ⟨htimeout, hbusy⟩ := h
  rcases busTimeout_cases s with ⟨hnone | hidle, -⟩ | ⟨-, n, -, ⟨-, k⟩ | ⟨-, k⟩⟩
  · exact absurd hnone htimeout
  · exact absurd hidle hbusy
  · rw [k, State.raiseBusError_twWait]
  · rw [k]

theorem busTimeout_of_expires {s : State} (h : WaitExpires s) : FailedWith .timeout s (busTimeout s) := by
  obtain ⟨hbusy, n, hn, hle⟩ := h
  rcases busTimeout_cases s with ⟨hnot, -⟩ | ⟨-, m, hm, ⟨-, k⟩ | ⟨hlt, -⟩⟩
  · simp [hn, hbusy] at hnot
  · rw [k]
    exact ⟨rfl, rfl, rfl⟩
  · cases hn.symm.trans hm
    omega

theorem busTimeout_of_not_expires {s : State} (h : ¬ WaitExpires s) :
    (busTimeout s).twPhase = s.twPhase ∧ (busTimeout s).hostOp = s.hostOp ∧ (busTimeout s).out = s.out := by
  rcases busTimeout_cases s with ⟨-, k⟩ | ⟨hbusy, n, hn, ⟨hle, -⟩ | ⟨-, k⟩⟩
  · simp [k]
  · exact absurd ⟨hbusy, n, hn, hle⟩ h
  · simp [k]

/-! ## When the flag and the mode change -/

/-- Outside a boundary a tick settles the flag to what it was (R34). -/
theorem tickStep_debounced_of_within {raw : Bool} {s : State} (h : DteInv s) (hwithin : windowEnds s = false) :
    (tickStep raw s).debounced = s.debounced := by
  rw [tickStep_debounced, hwithin, h.debounced]
  rfl

/-- Only a tick changes the flag (R201). -/
theorem tick_of_step_changes_debounced {s t : State} (h : step s = .next t) (hne : t.debounced ≠ s.debounced) :
    ∃ raw rest, s.stimuli = encode (.tick raw) :: rest ∧ t = tickStep raw { s with stimuli := rest } := by
  obtain ⟨-, w, rest, hs, ⟨i, hd, hx⟩ | ⟨-, hx⟩⟩ := step_next h
  · obtain ⟨rfl, -⟩ := exec_next hx
    obtain ⟨raw, rfl⟩ | ⟨trig, -, same⟩ := effect_dte i { s with stimuli := rest }
    · obtain ⟨rfl, -⟩ := decode_eq_instr_iff.1 hd
      exact ⟨raw, rest, hs, rfl⟩
    · exact absurd same.debounced hne
  · obtain ⟨-, rfl⟩ := whenReady_next hx
    exact absurd rfl hne

/-- Counting changes the parity, since a valid configuration's counters have an even number of values (R127). -/
theorem modeOf_inc_ne {c : Config} (h : configValid c = true) (n : Nat) : modeOf (inc c n) ≠ modeOf n := by
  obtain ⟨hpos, hfit, -, -⟩ := thresholds_fit h
  have hwidth : c.cntW ≠ 0 := by
    intro h0
    simp [h0] at hfit
  have hparity : inc c n % 2 = (n + 1) % 2 := Nat.mod_mod_of_dvd _ (dvd_pow_self 2 hwidth)
  intro hsame
  cases hn : modeOf n
  · have := modeOf_idle.1 hn
    have := modeOf_idle.1 (hsame.trans hn)
    omega
  · have := modeOf_active.1 hn
    have := modeOf_active.1 (hsame.trans hn)
    omega

/-! ## Runs of ticks -/

/-- The induction over ticks: what holds after `k` ticks, whatever stimuli wait, and after one tick more up to `n` of
them, holds at the end of a run. -/
theorem run_ticks {P : Nat → State → Prop} {n k : Nat} {raws : List Bool} {rest : List Word} {s : State}
    (consumed : ∀ k u rest, P k u → P k { u with stimuli := rest })
    (ticked : ∀ raw ∈ raws, ∀ k u, k < n → P k u → P (k + 1) (tickStep raw u)) (hc : configValid s.cfg = true)
    (hs : s.stimuli = raws.map (fun raw => encode (.tick raw)) ++ rest) (h : P k s) (hlen : k + raws.length ≤ n) :
    ∃ t, Host.Core.run Sys2Proof.core raws.length s = .next t ∧ t.stimuli = rest ∧ P (k + raws.length) t := by
  induction raws generalizing k s with
  | nil => exact ⟨s, rfl, hs, h⟩
  | cons raw raws ih =>
    rw [List.length_cons] at hlen ⊢
    obtain ⟨u, hstep, hu, hvalid, hnext⟩ : ∃ u, step s = .next u ∧
        u.stimuli = raws.map (fun raw => encode (.tick raw)) ++ rest ∧ configValid u.cfg = true ∧ P (k + 1) u :=
      ⟨_, step_of_tick hc hs, tickStep_stimuli raw _, (congrArg configValid (tickStep_cfg raw _)).trans hc,
        ticked raw List.mem_cons_self k _ (by omega) (consumed k s _ h)⟩
    obtain ⟨t, hrun, hrest, ht⟩ :=
      ih (fun r hr => ticked r (List.mem_cons_of_mem _ hr)) hvalid hu hnext (by omega)
    rw [Nat.succ_add] at ht
    exact ⟨t, (run_succ (M := Sys2Proof.core) hstep).trans hrun, hrest, ht⟩

/-- `k` ticks after a boundary, up to the next one, the tick counter stands at `k` (R123). -/
structure WindowCounted (c : Config) (k : Nat) (s : State) : Prop where
  cfg : s.cfg = c
  tickCnt : s.tickCnt = if k = c.debounceWindow + 1 then 0 else k

theorem windowCounted_tickStep {c : Config} {k : Nat} {s : State} (raw : Bool) (hc : configValid c = true)
    (hk : k < c.debounceWindow + 1) (h : WindowCounted c k s) : WindowCounted c (k + 1) (tickStep raw s) := by
  obtain ⟨-, hfit, -, -⟩ := thresholds_fit hc
  obtain ⟨rfl, hcnt⟩ := h
  rw [if_neg hk.ne] at hcnt
  refine ⟨tickStep_cfg raw s, ?_⟩
  rw [tickStep_tickCnt, windowEnds, hcnt, inc_of_le_threshold hfit hk]
  exact if_congr (exceeds_succ_iff hk) rfl rfl

/-- From `s` to `t` the button stayed held: the mode, the parameters and the sample are as before. -/
structure StillHeld (s t : State) : Prop where
  cfg : t.cfg = s.cfg
  sample : t.sample = s.sample
  modeCnt : t.modeCnt = s.modeCnt
  held : Held t

/-- A tick of level 1 while the button is held leaves the flag and the mode as they are (R125, R126). -/
theorem held_tickStep {s : State} (h : Held s) :
    Held (tickStep true s) ∧ (tickStep true s).modeCnt = s.modeCnt := by
  obtain ⟨-, hreliable, hraw, hprev, -⟩ := dteStep_fields true s
  have group := tickStep_sameDte true s
  have hflag : (tickStep true s).debounced = true := by
    simp [tickStep_debounced, h.prevRaw, h.reliable, h.rawSample]
  refine ⟨⟨hflag, group.reliable.trans ?_, group.rawSample.trans ?_, group.prevRaw.trans ?_⟩, ?_⟩
  · simp [hreliable, h.reliable, h.prevRaw]
  · simp [hraw, h.rawSample]
  · simp [hprev, h.prevRaw]
  · simp [tickStep_modeCnt, hflag]

theorem StillHeld.consumed {s t : State} (h : StillHeld s t) (rest : List Word) :
    StillHeld s { t with stimuli := rest } :=
  ⟨h.cfg, h.sample, h.modeCnt, h.held.debounced, h.held.reliable, h.held.rawSample, h.held.prevRaw⟩

theorem StillHeld.tickStep {s t : State} (h : StillHeld s t) : StillHeld s (tickStep true t) := by
  obtain ⟨hheld, hmode⟩ := held_tickStep h.held
  exact ⟨(tickStep_cfg true t).trans h.cfg, (tickStep_sample true t).trans h.sample, hmode.trans h.modeCnt, hheld⟩

theorem StillHeld.mode_eq {s t : State} (h : StillHeld s t) : mode t = mode s := mode_congr h.modeCnt

/-- The induction over ticks of a held button. -/
theorem run_held_ticks {P : Nat → State → Prop} {n k : Nat} {rest : List Word} {s : State}
    (consumed : ∀ k u rest, P k u → P k { u with stimuli := rest })
    (ticked : ∀ k u, k < n → StillHeld s u → P k u → P (k + 1) (tickStep true u)) (hc : configValid s.cfg = true)
    (hheld : Held s) (hs : s.stimuli = List.replicate k (encode (.tick true)) ++ rest) (h : P 0 s) (hk : k ≤ n) :
    ∃ t, Host.Core.run Sys2Proof.core k s = .next t ∧ StillHeld s t ∧ P k t := by
  have hraws : s.stimuli = (List.replicate k true).map (fun raw => encode (.tick raw)) ++ rest := by
    rw [hs, List.map_replicate]
  obtain ⟨t, hrun, -, hstill, ht⟩ := run_ticks (P := fun k u => StillHeld s u ∧ P k u) (n := n)
    (fun k u rest ⟨hstill, h⟩ => ⟨hstill.consumed rest, consumed k u rest h⟩)
    (fun raw hraw k u hlt ⟨hstill, h⟩ => List.eq_of_mem_replicate hraw ▸ ⟨hstill.tickStep, ticked k u hlt hstill h⟩)
    hc hraws ⟨⟨rfl, rfl, rfl, hheld⟩, h⟩ (by simpa using hk)
  rw [List.length_replicate] at hrun ht
  rw [Nat.zero_add] at ht
  exact ⟨t, hrun, hstill, ht⟩

/-- From `s` to `t` the ratio line and its counter are `k` ticks into their period (R130). -/
def RatioCounted (s : State) (k : Nat) (t : State) : Prop :=
  PeriodCounted (ratio s) not s.outRatio k t.outRatio t.ratioCnt

/-- From a clear trigger the serial counter is `k` ticks into its period (R131). -/
def SerialCounted (c : Config) (k : Nat) (t : State) : Prop :=
  PeriodCounted c.serThresh (fun _ => true) false k t.serTrig t.serCnt

theorem ratioCounted_tickStep {s t : State} {k : Nat} (hr : RangeInv s) (hfeat : s.cfg.featRatio = true)
    (hactive : mode s = .active) (hk : k < ratio s + 1) (hstill : StillHeld s t) (h : RatioCounted s k t) :
    RatioCounted s (k + 1) (tickStep true t) := by
  obtain ⟨hcnt, hline⟩ := tickStep_ratio_of_active (raw := true) (s := t) (by rw [hstill.cfg, hfeat])
    (hstill.tickStep.mode_eq.trans hactive)
  have hratio : ratio t = ratio s := by rw [ratio_eq, ratio_eq, hstill.cfg, hstill.sample]
  rw [RatioCounted, hcnt, hline, hratio, hstill.cfg]
  exact h.tick (ratio_fits hr) hk

theorem serialCounted_tickStep {s t : State} {k : Nat} (hc : configValid s.cfg = true)
    (hfeat : s.cfg.featHeartbeat = true) (hidle : mode s = .idle) (hk : k < s.cfg.serThresh + 1)
    (hstill : StillHeld s t) (h : SerialCounted s.cfg k t) : SerialCounted s.cfg (k + 1) (tickStep true t) := by
  obtain ⟨-, -, hfit, -⟩ := thresholds_fit hc
  obtain ⟨hcnt, htrig⟩ := tickStep_serial_of_idle (raw := true) (s := t) (by rw [hstill.cfg, hfeat])
    (hstill.tickStep.mode_eq.trans hidle)
  rw [SerialCounted, hcnt, htrig, hstill.cfg]
  exact h.tick hfit hk

/-! ## What a tick reads -/

/-- DTE's part of a tick reads the parameters, the sample and the DTE group, and nothing else (R120, R132). -/
theorem dteStep_reads_only_dte {s₁ s₂ : State} (raw : Bool) (hcfg : s₂.cfg = s₁.cfg) (hsample : s₂.sample = s₁.sample)
    (h : SameDte s₁ s₂) : SameDte (dteStep raw s₁) (dteStep raw s₂) := by
  have f₁ := dteStep_fields raw s₁
  have f₂ := dteStep_fields raw s₂
  simp only [mode_eq, ratio_eq, hcfg, hsample, h.rawSample, h.prevRaw, h.reliable, h.tickCnt, h.modeCnt, h.ratioCnt,
    h.serCnt, h.serTrig, h.outMode, h.outRatio] at f₁ f₂
  constructor <;> simp only [f₁, f₂]

theorem tickStep_reads_only_dte {s₁ s₂ : State} (raw : Bool) (hcfg : s₂.cfg = s₁.cfg) (hsample : s₂.sample = s₁.sample)
    (h : SameDte s₁ s₂) : SameDte (tickStep raw s₁) (tickStep raw s₂) := by
  have g := dteStep_reads_only_dte raw hcfg hsample h
  constructor <;> simp [tickStep, g.debounced, g.rawSample, g.prevRaw, g.reliable, g.tickCnt, g.modeCnt, g.ratioCnt,
    g.serCnt, g.serTrig, g.outMode, g.outRatio]

end Sys2Proof.Machine

namespace Sys2Proof.Proofs

open Sys2Proof.Machine Sys2Proof.Safety

/-! ## The obligations -/

/-- Settles O26: the fields of DTE's part in the order in which they depend on each other, and the timeout after it. -/
theorem tickWholeStep : Obligations.TickWholeStep := by
  unfold Obligations.TickWholeStep
  intro raw s tick ratioCnt serCnt boundary reliable sampled pressed modeCnt toggle trigger wait counting expired
  obtain ⟨htick, hreliable, hraw, hprev, hflag, hmode, hline, hratio, hratioLine, hser, htrig⟩ := dteStep_fields raw s
  have hboundary : exceeds (inc s.cfg s.tickCnt) s.cfg.debounceWindow = true ↔ boundary := exceeds_iff
  replace hreliable : (dteStep raw s).reliable = reliable := hreliable.trans (if_congr hboundary rfl rfl)
  replace hraw : (dteStep raw s).rawSample = sampled := hraw.trans (if_congr hboundary rfl rfl)
  replace hflag : (dteStep raw s).debounced = pressed := by rw [hflag, hreliable, hraw]
  replace hmode : (dteStep raw s).modeCnt = modeCnt :=
    hmode.trans (if_congr (by simp [hboundary, hflag, and_assoc]) rfl rfl)
  simp only [Bool.and_eq_true, decide_eq_true_iff, exceeds_iff, mode_eq, modeOf_active, modeOf_idle, hmode,
    modeLevel_modeOf, and_assoc] at hline hratio hratioLine hser htrig
  have hcounts : WaitCounts (dteStep raw s) ↔ counting := by rw [WaitCounts, dteStep_cfg, dteStep_twPhase]
  have hexpires : WaitExpires (dteStep raw s) ↔ expired := by
    rw [WaitExpires, dteStep_cfg, dteStep_twPhase, dteStep_twWait]
    rfl
  have group := tickStep_sameDte raw s
  refine ⟨tickStep raw s, rfl, eq_of_sameDte_of_outsideDteSame ?_ ?_, fun h => ?_, fun h => ?_, fun h => ?_,
    fun h => ?_⟩
  · exact
      { debounced := group.debounced.trans hflag
        rawSample := group.rawSample.trans hraw
        prevRaw := group.prevRaw.trans (hprev.trans (if_congr hboundary rfl rfl))
        reliable := group.reliable.trans hreliable
        tickCnt := group.tickCnt.trans (htick.trans (if_congr hboundary rfl rfl))
        modeCnt := group.modeCnt.trans hmode
        ratioCnt := group.ratioCnt.trans hratio
        serCnt := group.serCnt.trans hser
        serTrig := group.serTrig.trans htrig
        outMode := group.outMode.trans hline
        outRatio := group.outRatio.trans hratioLine }
  · constructor <;> simp [tickStep]
  · rw [tickStep, busTimeout_twWait_of_counts (hcounts.2 h), dteStep_cfg, dteStep_twWait]
    rfl
  · rw [tickStep, busTimeout_of_not_counts (mt hcounts.1 h), dteStep_twWait]
  · obtain ⟨hphase, hhost, hout⟩ := busTimeout_of_expires (hexpires.2 h)
    exact ⟨hphase, hhost, by rw [tickStep, hout, dteStep_out]; rfl⟩
  · simpa [tickStep] using busTimeout_of_not_expires (mt hexpires.1 h)

/-- Settles O27: only a tick writes the flag, and within a window it settles it to what the last boundary left. -/
theorem debouncedChangesOnlyAtBoundary : Obligations.DebouncedChangesOnlyAtBoundary := by
  unfold Obligations.DebouncedChangesOnlyAtBoundary
  intro s t hs h hne
  obtain ⟨raw, rest, hstim, rfl⟩ := tick_of_step_changes_debounced h hne
  have consumed : DteInv { s with stimuli := rest } := ⟨hs.debounced, hs.prevRaw, hs.outMode⟩
  have hends : windowEnds { s with stimuli := rest } = true := by
    by_contra hwithin
    exact hne (tickStep_debounced_of_within consumed (by simpa using hwithin))
  refine ⟨raw, rest, hstim, (windowEnds_iff _).1 hends, fun hflag => ?_⟩
  simpa [tickStep_debounced, hends] using hflag

/-- Settles O28: the mode counter counts exactly then, and counting changes its parity. -/
theorem modeTogglesPerReleasedWindow : Obligations.ModeTogglesPerReleasedWindow := by
  unfold Obligations.ModeTogglesPerReleasedWindow
  intro raw s hc hfeat
  refine ⟨tickStep raw s, rfl, ?_⟩
  rw [← windowEnds_iff, mode_eq, mode_eq, tickStep_modeCnt, hfeat]
  by_cases h : windowEnds s = true ∧ (tickStep raw s).debounced = false
  · simp [h, modeOf_inc_ne hc]
  · simp [h]

/-- Settles O29: the counter counts to the window without wrapping, and the tick after that restarts it. -/
theorem windowBoundariesAreEvenlySpaced : Obligations.WindowBoundariesAreEvenlySpaced := by
  unfold Obligations.WindowBoundariesAreEvenlySpaced
  intro s raws rest hc h0 hs hlen
  obtain ⟨t, hrun, hrest, -, hcnt⟩ := run_ticks (k := 0) (fun _ _ _ h => ⟨h.cfg, h.tickCnt⟩)
    (fun raw _ _ _ hk h => windowCounted_tickStep raw hc hk h) hc hs ⟨rfl, by simpa using h0⟩ (by simpa using hlen)
  exact ⟨t, hrun, hrest, by simpa using hcnt⟩

/-- Settles O30: the mode stands while the button is held, and the counter reaches the derived period unwrapped. -/
theorem ratioLineTogglePeriod : Obligations.RatioLineTogglePeriod := by
  unfold Obligations.RatioLineTogglePeriod
  intro s k rest hr hheld hfeat hactive h0 hs hk
  obtain ⟨t, hrun, hstill, hline⟩ := run_held_ticks (fun _ _ _ h => h)
    (fun _ _ hlt hstill h => ratioCounted_tickStep hr hfeat hactive hlt hstill h) hr.config hheld hs
    (by simp [RatioCounted, h0, periodCounted_zero]) hk
  exact ⟨t, hrun, hstill.held, hstill.mode_eq.trans hactive, hline⟩

/-- Settles O31: the mode stands while the button is held, and the counter reaches the threshold unwrapped. -/
theorem serialTriggerPeriod : Obligations.SerialTriggerPeriod := by
  unfold Obligations.SerialTriggerPeriod
  intro s k rest hr hheld hfeat hidle h0 htrig hs hk
  obtain ⟨t, hrun, hstill, hline⟩ := run_held_ticks (fun _ _ _ h => h)
    (fun _ _ hlt hstill h => serialCounted_tickStep hr.config hfeat hidle hlt hstill h) hr.config hheld hs
    (by simp [SerialCounted, h0, htrig, periodCounted_zero]) hk
  exact ⟨t, hrun, hstill.held, hstill.mode_eq.trans hidle, hline⟩

/-- Settles O32: a tick computes the DTE group from the parameters, the sample and the group. -/
theorem timingEngineIsolated : Obligations.TimingEngineIsolated := by
  unfold Obligations.TimingEngineIsolated
  intro raw s₁ s₂ hcfg hsample h
  exact ⟨_, _, rfl, rfl, tickStep_reads_only_dte raw hcfg hsample h⟩

end Sys2Proof.Proofs
end

section
/-! Proofs of the analog and serial obligations (42_asq_analog_serial.md): the conversion trigger (R141 to R144), the
sends and their pump (R146 to R149, R155), the status line's decimal text (R150, R151), and the receive half (R152 to
R154). -/

namespace Sys2Proof.Machine

open Sys2Proof.Safety

/-! ## Commands and events, admitted -/

/-- A command that finds the port ready leaves its effect (R82). -/
theorem exec_command_of_idle {i : Instr} {s : State} (hi : i.isEvent = false) (h : s.hostOp = .none) :
    exec i s = .next (effect i s) :=
  (exec_command hi s).trans (whenReady_of_idle h)

/-- An event that a wire can carry leaves its effect, in every state (R82). -/
theorem exec_event_of_wellFormed {i : Instr} {s : State} (hi : i.isEvent = true) (hw : i.wellFormed s.cfg = true) :
    exec i s = .next (effect i s) :=
  (exec_event hi s).trans (if_pos hw)

/-- What is admitted while a command is outstanding is an event (R82). -/
theorem isEvent_of_exec_next_busy {i : Instr} {s t : State} (h : exec i s = .next t) (hbusy : s.hostOp ≠ .none) :
    i.isEvent = true := by
  by_contra hi
  exact hbusy ((exec_next h).2 (by simpa using hi))

/-! ## The conversion -/

/-- The enable line is driven, and shown on the trace, with the gate only (R142). -/
theorem driveAdcEnable_eq (v : Bool) (s : State) :
    driveAdcEnable v s =
      { s with
        adcEn := if s.cfg.featAdcGate then v else s.adcEn
        out := s.out ++ (if s.cfg.featAdcGate then [.adcEn v] else []) } := by
  cases hgate : s.cfg.featAdcGate
  · simp [driveAdcEnable_ungated hgate]
  · simp [driveAdcEnable_gated hgate, State.emit]

/-- An accepted `ADC_START`: the enable line if gated, the trigger, the answer (R141). -/
theorem startConversion_eq {s : State} (h : s.hostOp = .none) :
    startConversion s =
      { s with
        convPending := true
        adcEn := if s.cfg.featAdcGate then true else s.adcEn
        out := s.out ++ (if s.cfg.featAdcGate then [.adcEn true] else []) ++ [.adcTrig, .rsp 0#32] } := by
  simp [startConversion, driveAdcEnable_eq, respond_of_idle, h]

/-! ## How many conversions the trace shows triggered -/

/-- The `ADC_TRIG` events of the trace. -/
def triggers (s : State) : Nat := s.out.count .adcTrig

theorem triggers_congr {s t : State} (h : t.out = s.out) : triggers t = triggers s := congrArg (List.count _) h

theorem triggers_emit {s : State} {e : OutEvent} (h : e ≠ .adcTrig) : triggers (s.emit e) = triggers s := by
  simp [triggers, h]

theorem triggers_emit_adcTrig (s : State) : triggers (s.emit .adcTrig) = triggers s + 1 := by
  simp [triggers]

theorem triggers_respond (s : State) (w : Word) : triggers (s.respond w) = triggers s := triggers_emit (s := s) nofun

theorem triggers_raiseBusError (s : State) (e : BusError) : triggers (s.raiseBusError e) = triggers s :=
  triggers_respond _ _

theorem triggers_driveAdcEnable (v : Bool) (s : State) : triggers (driveAdcEnable v s) = triggers s := by
  unfold driveAdcEnable
  split
  · exact triggers_emit nofun
  · rfl

theorem triggers_pump (s : State) : triggers (pump s) = triggers s := by
  rcases pump_cases s with k | ⟨-, -, b, q, -, ⟨-, k⟩ | ⟨-, k⟩⟩ <;> rw [k]
  · exact (triggers_respond _ _).trans (triggers_emit nofun)
  · exact triggers_emit nofun

theorem triggers_ready (status : Byte) (s : State) : triggers (ready status s) = triggers s := by
  rcases ready_cases status s with ⟨-, k⟩ | ⟨-, -, k⟩ | ⟨-, -, k⟩ | ⟨-, -, k⟩ | ⟨-, e, -, k⟩ <;> rw [k]
  · exact triggers_emit (s := s) nofun
  · exact triggers_emit (s := s) nofun
  · exact (triggers_respond _ _).trans (triggers_emit (s := s) nofun)
  · exact triggers_raiseBusError s e

theorem triggers_tickStep (raw : Bool) (s : State) : triggers (tickStep raw s) = triggers s := by
  have counted : triggers (dteStep raw s) = triggers s := triggers_congr (dteStep_out raw s)
  unfold tickStep
  rcases busTimeout_cases (dteStep raw s) with ⟨-, k⟩ | ⟨-, n, -, ⟨-, k⟩ | ⟨-, k⟩⟩ <;> rw [k]
  · exact counted
  · exact (triggers_raiseBusError _ _).trans counted
  · exact counted

theorem triggers_sendLine (s : State) : triggers (sendLine s) = triggers s := by
  unfold sendLine
  split
  · exact triggers_pump _
  · exact triggers_respond _ _

theorem triggers_pollReceive (s : State) : triggers (pollReceive s) = triggers s := by
  unfold pollReceive
  split <;> exact triggers_respond _ _

theorem triggers_startConversion (s : State) : triggers (startConversion s) = triggers s + 1 :=
  calc triggers (startConversion s)
      = triggers ((driveAdcEnable true s).emit .adcTrig) := triggers_respond _ _
    _ = triggers (driveAdcEnable true s) + 1 := triggers_emit_adcTrig _
    _ = triggers s + 1 := by rw [triggers_driveAdcEnable]

/-- `ADC_START` triggers one conversion, and nothing else triggers any (R144). -/
theorem triggers_effect (i : Instr) (s : State) :
    triggers (effect i s) = triggers s + (if i = .adcStart then 1 else 0) := by
  cases i with
  | adcStart => exact triggers_startConversion s
  | twWrite dev byte => exact triggers_emit nofun
  | serTx byte => exact triggers_pump _
  | serLine => exact triggers_sendLine s
  | serRxpoll => exact triggers_pollReceive s
  | rd sel => exact triggers_respond _ _
  | tick raw => exact triggers_tickStep raw s
  | convDone sample => exact triggers_driveAdcEnable false _
  | twReady status => exact triggers_ready status s
  | serTxe => exact triggers_pump _
  | serRx byte => rfl

/-! ## Sends -/

/-- The last byte and the answer to the send, in the trace's order (R147). -/
theorem serByte_respond (s : State) (b : Byte) (w : Word) :
    (s.emit (.serByte b)).respond w = { s with out := s.out ++ [.serByte b, .rsp w], hostOp := .none } := by
  simp [State.respond, State.emit]

/-- The port empties under the last byte of a send, which answers it with the latched count (R148). -/
theorem exec_serTxe_last {s : State} {b : Byte} (hsend : sending s) (hq : s.serQ = [b]) :
    exec .serTxe s =
      .next { s with
        serQ := [], serTxe := false, hostOp := .none
        out := s.out ++ [.serByte b, .rsp (BitVec.ofNat 32 s.serN.toNat)] } := by
  rw [exec_event_of_wellFormed rfl rfl, effect, pump_last (s := { s with serTxe := true }) hsend rfl hq,
    serByte_respond, BitVec.ofNat_toNat]

/-- The port empties under a byte that is not the last (R148). -/
theorem exec_serTxe_more {s : State} {b : Byte} {q : List Byte} (hsend : sending s) (hq : s.serQ = b :: q)
    (hne : q ≠ []) :
    exec .serTxe s = .next { s with serQ := q, serTxe := false, out := s.out ++ [.serByte b] } := by
  rw [exec_event_of_wellFormed rfl rfl, effect, pump_more (s := { s with serTxe := true }) hsend rfl hq hne]
  rfl

/-- With nothing to send the empty port is only noted (R148). -/
theorem exec_serTxe_of_nothing {s : State} (h : ¬ sending s ∨ s.serQ = []) :
    exec .serTxe s = .next { s with serTxe := true } := by
  rw [exec_event_of_wellFormed rfl rfl, effect]
  rcases h with hidle | hempty
  · exact congrArg _ (pump_of_idle fun hsend => hidle hsend.1)
  · exact congrArg _ (pump_of_empty hempty)

/-- The induction over the queue: one `SER_TXE` for each byte writes them all, and the last one answers. -/
theorem run_serTxe_drains {s : State} {b : Byte} {q : List Byte} {rest : List Word} (hc : configValid s.cfg = true)
    (hsend : sending s) (hq : s.serQ = b :: q)
    (hs : s.stimuli = List.replicate (q.length + 1) (encode .serTxe) ++ rest) :
    Host.Core.run Sys2Proof.core (q.length + 1) s =
      .next { s with
        stimuli := rest, serQ := [], serTxe := false, hostOp := .none
        out := s.out ++ (b :: q).map .serByte ++ [.rsp (BitVec.ofNat 32 s.serN.toNat)] } := by
  induction q generalizing s b with
  | nil =>
    rw [run_encode hc hs rfl (exec_serTxe_last hsend hq)]
    simp [Host.Core.run]
  | cons b' q ih =>
    refine (run_encode hc hs rfl (exec_serTxe_more hsend hq nofun)).trans ((ih ?valid ?still rfl rfl).trans ?written)
    case valid => exact hc
    case still => exact hsend
    case written => simp

/-- From `s` to `t` a send stands still, its port still full (R155). -/
structure SendSame (s t : State) : Prop where
  hostOp : t.hostOp = s.hostOp
  serQ : t.serQ = s.serQ
  serN : t.serN = s.serN
  serTxe : t.serTxe = s.serTxe

/-- With the bus free no event but `SER_TXE` touches a send; the bus timeout does not apply (R108, R155). -/
theorem sendSame_effect_event {i : Instr} {s : State} (hi : i.isEvent = true) (hne : i ≠ .serTxe)
    (hfree : s.twPhase = .idle) : SendSame s (effect i s) := by
  cases i <;> cases hi
  case tick raw =>
    have untimed : tickStep raw s = dteStep raw s := busTimeout_of_not_counts (by simp [WaitCounts, hfree])
    constructor <;> simp [effect, untimed]
  case convDone sample => constructor <;> simp [effect, captureSample]
  case twReady status =>
    have ignored : ready status s = s := by simp [ready, hfree]
    rw [effect, ignored]
    exact ⟨rfl, rfl, rfl, rfl⟩
  case serTxe => exact absurd rfl hne
  case serRx byte => exact ⟨rfl, rfl, rfl, rfl⟩

/-! ## The status line -/

theorem lineDue_iff (s : State) : lineDue s = true ↔ s.serTrig = true ∧ s.serEn = true ∧ s.modeCnt % 2 = 0 := by
  simp [lineDue, mode_eq, modeOf_idle, and_assoc]

/-- A line that finds the port empty writes its first byte and is outstanding with the rest (R149). -/
theorem beginSend_line_of_empty {c : Config} {n : Nat} {s : State} (h : s.serTxe = true) :
    beginSend .line (statusLine c n) s =
      { s with
        serQ := (statusLine c n).tail, serN := BitVec.ofNat 8 (statusLine c n).length, hostOp := .line, serTxe := false
        out := s.out ++ [.serByte ((statusLine c n).headD 0#8)] } := by
  obtain ⟨b, q, hline, hne⟩ := statusLine_cons c n
  rw [hline, beginSend_more (.inr rfl) h hne]
  rfl

/-! ## The decimal text -/

theorem toNat_digitByte {d : Nat} (h : d < 10) : (digitByte d).toNat = 0x30 + d := by
  rw [digitByte, BitVec.toNat_ofNat]
  omega

/-- With fuel enough the digits are Mathlib's, most significant first. -/
theorem decDigits_eq_digits {fuel n : Nat} (acc : List Byte) (hpos : 0 < n) (hfuel : n ≤ fuel) :
    decDigits fuel n acc = (Nat.digits 10 n).reverse.map digitByte ++ acc := by
  induction fuel generalizing n acc with
  | zero => omega
  | succ fuel ih =>
    unfold decDigits
    split
    next hlt => simp [Nat.digits_of_lt 10 n hpos.ne' hlt]
    next hge =>
      rw [ih _ (by omega) (by omega), Nat.digits_def' (by omega) hpos]
      simp

theorem dec_eq_digits {n : Nat} (h : n ≠ 0) : dec n = (Nat.digits 10 n).reverse.map digitByte :=
  (decDigits_eq_digits [] (Nat.pos_of_ne_zero h) le_rfl).trans (List.append_nil _)

/-- The number a decimal text spells, read most significant digit first (R151). -/
def decimalValue (text : List Byte) : Nat := text.foldl (fun v d => 10 * v + (d.toNat - 0x30)) 0

theorem decimalValue_append_singleton (text : List Byte) (d : Byte) :
    decimalValue (text ++ [d]) = 10 * decimalValue text + (d.toNat - 0x30) := by
  simp [decimalValue]

/-- Digits written as bytes spell the number they are the digits of. -/
theorem decimalValue_reverse_map {l : List Nat} (h : ∀ d ∈ l, d < 10) :
    decimalValue (l.reverse.map digitByte) = Nat.ofDigits 10 l := by
  induction l with
  | nil => rfl
  | cons d l ih =>
    rw [List.forall_mem_cons] at h
    obtain ⟨hd, hl⟩ := h
    rw [List.reverse_cons, List.map_append, List.map_singleton, decimalValue_append_singleton, ih hl,
      toNat_digitByte hd, Nat.ofDigits_cons, Nat.add_sub_cancel_left, Nat.add_comm]

theorem decimalValue_dec (n : Nat) : decimalValue (dec n) = n := by
  rcases eq_or_ne n 0 with rfl | hn
  · rfl
  · rw [dec_eq_digits hn, decimalValue_reverse_map fun d => Nat.digits_lt_base (by omega), Nat.ofDigits_digits]

theorem mem_dec_range {n : Nat} {d : Byte} (h : d ∈ dec n) : 0x30 ≤ d.toNat ∧ d.toNat ≤ 0x39 := by
  rcases eq_or_ne n 0 with rfl | hn
  · obtain rfl : d = 0x30#8 := List.mem_singleton.1 h
    decide
  · rw [dec_eq_digits hn, List.mem_map] at h
    obtain ⟨k, hk, rfl⟩ := h
    have hlt : k < 10 := Nat.digits_lt_base (by omega) (List.mem_reverse.1 hk)
    rw [toNat_digitByte hlt]
    omega

/-- The most significant digit of a positive number is not 0. -/
theorem dec_head_ne_zero {n : Nat} (hn : n ≠ 0) : (dec n).head? ≠ some 0x30#8 := by
  have hdigits : Nat.digits 10 n ≠ [] := Nat.digits_ne_nil_iff_ne_zero.2 hn
  have hlt : (Nat.digits 10 n).getLast hdigits < 10 := Nat.digits_lt_base (by omega) (List.getLast_mem hdigits)
  have hne : (Nat.digits 10 n).getLast hdigits ≠ 0 := Nat.getLast_digit_ne_zero 10 hn
  rw [dec_eq_digits hn, List.head?_map, List.head?_reverse, List.getLast?_eq_getLast_of_ne_nil hdigits]
  intro hzero
  have hbyte := congrArg BitVec.toNat (Option.some.inj hzero)
  rw [toNat_digitByte hlt] at hbyte
  exact hne (Nat.add_eq_left.1 hbyte)

/-! ## The receive poll -/

/-- The answer that carries a received byte (R154). -/
theorem receivedWord_eq (b : Byte) : 0x100#32 + b.setWidth 32 = BitVec.ofNat 32 (0x100 + b.toNat) := by
  rw [BitVec.ofNat_add, BitVec.ofNat_toNat]

end Sys2Proof.Machine

namespace Sys2Proof.Proofs

open Sys2Proof.Machine Sys2Proof.Safety

/-! ## The obligations -/

/-- Settles O35: an instruction that has a next state leaves its effect there, and the effects' triggers are counted. -/
theorem onlyAdcStartTriggers : Obligations.OnlyAdcStartTriggers := by
  unfold Obligations.OnlyAdcStartTriggers
  intro i s t h
  obtain ⟨rfl, -⟩ := exec_next h
  exact triggers_effect i s

/-- Settles O39: the text is Mathlib's list of digits, reversed and written as bytes. -/
theorem decimalTextOfSample : Obligations.DecimalTextOfSample := by
  unfold Obligations.DecimalTextOfSample
  exact ⟨fun n => ⟨decimalValue_dec n, fun _ => mem_dec_range, dec_head_ne_zero⟩, by decide, by decide, by decide,
    by decide, by decide⟩

/-- Settles O40, by induction on the queue. -/
theorem outstandingSendDrains : Obligations.OutstandingSendDrains := by
  unfold Obligations.OutstandingSendDrains
  intro s rest hc hsend hne hs
  obtain ⟨b, q, hq⟩ := List.exists_cons_of_ne_nil hne
  rw [hq] at hs ⊢
  exact run_serTxe_drains hc hsend hq hs

/-- Settles O41: only events are admitted, and an outstanding send finds the bus free, so no event but `SER_TXE` has
anything to do with it. -/
theorem unansweredSendHangs : Obligations.UnansweredSendHangs := by
  unfold Obligations.UnansweredSendHangs
  intro i s t hport hsend hne h
  have hbusy : s.hostOp ≠ .none := by rcases hsend with ho | ho <;> simp [ho]
  have hevent := isEvent_of_exec_next_busy h hbusy
  obtain ⟨rfl, -⟩ := exec_next h
  obtain ⟨hhost, hq, hn, htxe⟩ := sendSame_effect_event hevent hne (hport.bus_idle_of_sending hsend)
  exact ⟨hhost, hq, hn, htxe.trans (hport.waiting hsend)⟩

/-- Settles O33: the command finds the port ready, so its answer leaves the port as it was. -/
theorem adcStartAccepted : Obligations.AdcStartAccepted := by
  unfold Obligations.AdcStartAccepted
  intro s h
  rw [exec_command_of_idle rfl h, effect, startConversion_eq h]

/-- Settles O34: the sample is in range, so the event is admitted, and it drives the enable line last. -/
theorem convDoneCaptured : Obligations.ConvDoneCaptured := by
  unfold Obligations.ConvDoneCaptured
  intro s n hn
  have hw : (Instr.convDone n).wellFormed s.cfg = true := decide_eq_true hn
  rw [exec_event_of_wellFormed rfl hw, effect, captureSample, driveAdcEnable_eq]

/-- Settles O36: the pump finds the port empty and the byte its last one, or finds the port full. -/
theorem serTxAccepted : Obligations.SerTxAccepted := by
  unfold Obligations.SerTxAccepted
  intro s byte h
  rw [exec_command_of_idle rfl h, effect]
  split
  next he => rw [beginSend_single (.inl rfl) he, serByte_respond, ← h]
  next hfull =>
    rw [beginSend_waiting (by simpa using hfull)]
    rfl

/-- Settles O37: the pump's three cases, on a port that has just become empty. -/
theorem serTxeStep : Obligations.SerTxeStep := by
  unfold Obligations.SerTxeStep
  refine fun s => ⟨fun hsend b q hq => ?_, exec_serTxe_of_nothing⟩
  split
  next hlast => exact exec_serTxe_last hsend (hlast ▸ hq)
  next hmore => exact exec_serTxe_more hsend hq hmore

/-- Settles O38: the trigger is consumed first, then the line is sent or the command answered. -/
theorem serLineAccepted : Obligations.SerLineAccepted := by
  unfold Obligations.SerLineAccepted
  intro s h line
  rw [exec_command_of_idle rfl h, effect, sendLine]
  simp only [lineDue_iff]
  congr 1
  split
  next hdue =>
    split
    next he => exact beginSend_line_of_empty he
    next hfull => exact beginSend_waiting (by simpa using hfull)
  next hdrop => exact respond_of_idle _ h

/-- Settles O42: the event is admitted in every state, and its effect is the two fields. -/
theorem serRxStored : Obligations.SerRxStored := by
  unfold Obligations.SerRxStored
  intro s byte
  rw [exec_event_of_wellFormed rfl rfl, effect]

/-- Settles O43: the command finds the port ready, so its answer leaves the port as it was. -/
theorem receivePollAccepted : Obligations.ReceivePollAccepted := by
  unfold Obligations.ReceivePollAccepted
  intro s h
  rw [exec_command_of_idle rfl h, effect, pollReceive]
  congr 1
  split
  next hwaiting =>
    rw [receivedWord_eq]
    exact respond_of_idle _ h
  next hnone => exact respond_of_idle _ h

end Sys2Proof.Proofs
end

section
/-! Proofs of the host read's obligations (43_host_read.md): the map of the selectors (R161), the response that carries a
value (R160, R89), and the selectors outside the map (R163). -/

namespace Sys2Proof.Machine

/-! ## The map of the selectors -/

/-- The code of the mode is the parity of its counter (R28, R161). -/
theorem modeCode_mode (s : State) : modeCode (mode s) = s.modeCnt % 2 := by
  cases h : mode s with
  | idle => exact (modeOf_idle.1 h).symm
  | active => exact (modeOf_active.1 h).symm

/-- R161's table, the mode and the period spelled by the fields they are derived from (R28, R129). -/
def selectorMap (s : State) : List (Byte × Nat) :=
  [(0x00#8, s.debounced.toNat), (0x01#8, s.rawSample.toNat), (0x02#8, s.prevRaw.toNat), (0x03#8, s.reliable.toNat),
    (0x04#8, s.tickCnt), (0x05#8, s.modeCnt), (0x06#8, s.modeCnt % 2), (0x07#8, s.ratioCnt), (0x08#8, s.serCnt),
    (0x09#8, s.serTrig.toNat), (0x0A#8, s.sample), (0x0B#8, s.convPending.toNat), (0x0C#8, s.serEn.toNat),
    (0x0D#8, s.outMode.toNat), (0x0E#8, s.outRatio.toNat),
    (0x0F#8, s.sample * s.cfg.ratioScale / s.cfg.ratioDiv + s.cfg.ratioOffset), (0x10#8, s.adcEn.toNat),
    (0x11#8, s.serTxe.toNat), (0x12#8, s.rxReady.toNat)]

/-- The model reads every selector of the table as the table says (R161). -/
theorem selectorValue_of_mem_selectorMap {s : State} {sel : Byte} {v : Nat} (h : (sel, v) ∈ selectorMap s) :
    selectorValue s sel = some v := by
  have reads : ∀ row ∈ selectorMap s, selectorValue s row.1 = some row.2 := by
    simp [selectorMap, selectorValue, modeCode_mode, ratio, ratioOf]
  exact reads _ h

/-! ## The response -/

/-- Bit 31 of a read value's response is 0, whatever the value (R89). -/
theorem msb_readWord (sel : Byte) (v : Nat) : (readWord sel v).msb = false := by
  rw [readWord, BitVec.msb_setWidth]
  exact BitVec.getLsbD_of_ge _ _ (by decide)

/-- A value of up to 32 bits keeps bits 30 to 0 (R89, R160). -/
theorem toNat_readWord {v : Nat} (sel : Byte) (h : v < 2 ^ 32) : (readWord sel v).toNat = v % 2 ^ 31 := by
  rw [readWord, if_pos h, BitVec.toNat_setWidth_of_le (by decide), BitVec.toNat_ofNat]

/-- A value that needs no bit 31 is answered whole (R160). -/
theorem readWord_of_lt {v : Nat} (sel : Byte) (h : v < 2 ^ 31) : readWord sel v = BitVec.ofNat 32 v := by
  apply BitVec.eq_of_toNat_eq
  rw [toNat_readWord sel (by omega), BitVec.toNat_ofNat]
  omega

/-- A read with the command port ready adds its response to the trace and changes nothing else (R160). -/
theorem exec_rd_eq {s : State} (sel : Byte) (h : s.hostOp = .none) :
    exec (.rd sel) s = .next { s with out := s.out ++ [.rsp (readResponse sel s)] } := by
  rw [exec_rd_of_idle sel h, respond_of_idle _ h]

end Sys2Proof.Machine

namespace Sys2Proof.Proofs

open Sys2Proof.Machine

/-! ## The obligations -/

/-- Settles O44: the selector's row of the table is what the model reads, and its value is answered in `r[30:0]`. -/
theorem readOfDefinedSelector : Obligations.ReadOfDefinedSelector := by
  unfold Obligations.ReadOfDefinedSelector
  intro s sel v h hrow
  have answered : readResponse sel s = readWord sel v := by
    rw [readResponse, selectorValue_of_mem_selectorMap hrow]
  exact ⟨readWord sel v, answered ▸ exec_rd_eq sel h, msb_readWord sel v, readWord_of_lt sel, toNat_readWord sel⟩

/-- Settles O45: the selector is in no row of the table, and the read changes nothing but the trace. -/
theorem readOfUndefinedSelector : Obligations.ReadOfUndefinedSelector := by
  unfold Obligations.ReadOfUndefinedSelector
  intro s sel h hsel
  rw [exec_rd_eq sel h, readResponse_of_undefined hsel, notExecuted]

end Sys2Proof.Proofs
end

section
/-! Proofs of the host software's obligations (44_host_software.md): the bus sees a display routine as a sequence of
writes, delays left out (R173 to R176), issued up to the first error the host surfaces (R179). -/

namespace Sys2Proof.Machine

/-! ## Programs without their delays -/

/-- A program with its delays left out. -/
def HostProg.withoutDelays {α : Type} : HostProg α → HostProg α
  | .done a => .done a
  | .command i next => .command i (fun r => (next r).withoutDelays)
  | .delay _ next => next.withoutDelays

@[simp] theorem HostProg.withoutDelays_done {α : Type} (a : α) : (HostProg.done a).withoutDelays = .done a := rfl

/-- An act's writes come before those of the acts after it. -/
theorem busWrites_cons (act : HostAct) (acts : List HostAct) :
    busWrites (act :: acts) = busWrites [act] ++ busWrites acts :=
  busWrites_append [act] acts

/-- Delays are neither bus writes nor part of the result. -/
theorem HostProg.run_withoutDelays {α : Type} (x : HostProg α) (rs : List Word) :
    busWrites (x.withoutDelays.run rs).1 = busWrites (x.run rs).1 ∧ (x.withoutDelays.run rs).2 = (x.run rs).2 := by
  induction x generalizing rs with
  | done a => exact ⟨rfl, rfl⟩
  | delay us next ih => simpa [withoutDelays] using ih rs
  | command i next ih =>
    cases rs with
    | nil => simp [withoutDelays, HostProg.run]
    | cons r rs =>
      obtain ⟨hwrites, hresult⟩ := ih r rs
      simp only [withoutDelays, run_command_cons]
      exact ⟨by rw [busWrites_cons, hwrites, ← busWrites_cons], hresult⟩

theorem HostProg.withoutDelays_bind {α β : Type} (x : HostProg α) (f : α → HostProg β) :
    (x.bind f).withoutDelays = x.withoutDelays.bind (fun a => (f a).withoutDelays) := by
  induction x with
  | done a => rfl
  | delay us next ih => simpa [withoutDelays] using ih
  | command i next ih => simp [withoutDelays, ih]

theorem HostProg.bind_assoc {α β γ : Type} (x : HostProg α) (f : α → HostProg β) (g : β → HostProg γ) :
    (x.bind f).bind g = x.bind (fun a => (f a).bind g) := by
  induction x with
  | done a => rfl
  | delay us next ih => simp [ih]
  | command i next ih => simp [ih]

/-! ## One part after another -/

@[simp] theorem withoutDelays_andThen (x y : HostProg Word) :
    (andThen x y).withoutDelays = andThen x.withoutDelays y.withoutDelays := by
  rw [andThen, HostProg.withoutDelays_bind, andThen]
  congr 1
  funext code
  split <;> rfl

@[simp] theorem withoutDelays_pause (us : Nat) : (pause us).withoutDelays = .done 0#32 := rfl

@[simp] theorem withoutDelays_driverWrite (p : LcdParams) (byte : Byte) :
    (driverWrite p byte).withoutDelays = driverWrite p byte := rfl

@[simp] theorem done_andThen (x : HostProg Word) : andThen (.done 0#32) x = x := rfl

@[simp] theorem andThen_assoc (x y z : HostProg Word) : andThen (andThen x y) z = andThen x (andThen y z) := by
  rw [andThen, andThen, HostProg.bind_assoc, andThen]
  congr 1
  funext code
  by_cases h : code = 0#32 <;> simp [h, andThen]

/-! ## A sequence of bus writes -/

/-- The bus writes of some bytes, in order, up to the first error the host surfaces: what `sendNibble`, `writeChar` and
`writeString` are once their delays are left out. -/
def issueWrites (p : LcdParams) (bytes : List Byte) : HostProg Word := inSequence (bytes.map (driverWrite p))

@[simp] theorem issueWrites_nil (p : LcdParams) : issueWrites p [] = .done 0#32 := rfl

@[simp] theorem issueWrites_cons (p : LcdParams) (b : Byte) (bs : List Byte) :
    issueWrites p (b :: bs) = andThen (driverWrite p b) (issueWrites p bs) := rfl

theorem issueWrites_append (p : LcdParams) (as bs : List Byte) :
    issueWrites p (as ++ bs) = andThen (issueWrites p as) (issueWrites p bs) := by
  induction as with
  | nil => rfl
  | cons a as ih => simp [ih]

section
variable {p : LcdParams} {r : Word}

/-- A write whose error, if any, is not surfaced hands over to the next (R179). -/
theorem issueWrites_run_ok (b : Byte) (bs : List Byte) (rs : List Word) (h : p.propagatesErrors = false ∨ r = 0#32) :
    (issueWrites p (b :: bs)).run (r :: rs) =
      (.command (.twWrite p.addr b) :: ((issueWrites p bs).run rs).1, ((issueWrites p bs).run rs).2) := by
  have hok : (if p.propagatesErrors then r else 0#32) = 0#32 := by
    rcases h with h | h <;> simp [h]
  rw [issueWrites_cons, andThen_run_ok (by rw [driverWrite_run, hok]), driverWrite_run]
  rfl

/-- A write whose error is surfaced is the last (R179). -/
theorem issueWrites_run_error (b : Byte) (bs : List Byte) (rs : List Word) (hp : p.propagatesErrors = true)
    (h : r ≠ 0#32) : (issueWrites p (b :: bs)).run (r :: rs) = ([.command (.twWrite p.addr b)], some r) := by
  have hrun := driverWrite_run p b r rs
  rw [if_pos hp] at hrun
  rw [issueWrites_cons, andThen_run_error (by rw [hrun]) h, hrun]

end

/-- With no error surfaced all the writes are made (R179). -/
theorem busWrites_issueWrites_of_ok {p : LcdParams} {bytes : List Byte} {answers : List Word}
    (hlen : bytes.length ≤ answers.length)
    (hok : p.propagatesErrors = false ∨ ∀ r ∈ answers.take bytes.length, r = 0#32) :
    busWrites ((issueWrites p bytes).run answers).1 = bytes ∧ ((issueWrites p bytes).run answers).2 = some 0#32 := by
  induction bytes generalizing answers with
  | nil => simp
  | cons b bs ih =>
    cases answers with
    | nil => simp at hlen
    | cons r rs =>
      rw [List.length_cons, List.take_succ_cons, List.forall_mem_cons] at hok
      have hrest := ih (Nat.le_of_succ_le_succ hlen) (hok.imp_right And.right)
      rw [issueWrites_run_ok b bs rs (hok.imp_right And.left)]
      simpa using hrest

/-- A host that propagates errors makes the writes up to the first that fails (R179). -/
theorem busWrites_issueWrites_of_error {p : LcdParams} {bytes : List Byte} {answers : List Word} {k : Nat} {code : Word}
    (hp : p.propagatesErrors = true) (hk : k < bytes.length) (hbefore : ∀ r ∈ answers.take k, r = 0#32)
    (hcode : answers[k]? = some code) (hne : code ≠ 0#32) :
    busWrites ((issueWrites p bytes).run answers).1 = bytes.take (k + 1) ∧
      ((issueWrites p bytes).run answers).2 = some code := by
  induction k generalizing bytes answers with
  | zero =>
    obtain ⟨b, bs, rfl⟩ := List.exists_cons_of_length_pos hk
    obtain ⟨rs, rfl⟩ := List.head?_eq_some_iff.mp (List.head?_eq_getElem? ▸ hcode)
    rw [issueWrites_run_error b bs rs hp hne]
    exact ⟨rfl, rfl⟩
  | succ k ih =>
    obtain ⟨b, bs, rfl⟩ := List.exists_cons_of_length_pos (Nat.zero_lt_of_lt hk)
    cases answers with
    | nil => simp at hcode
    | cons r rs =>
      rw [List.take_succ_cons, List.forall_mem_cons] at hbefore
      obtain ⟨hr, hbefore⟩ := hbefore
      have hrest := ih (Nat.lt_of_succ_lt_succ hk) hbefore hcode
      rw [issueWrites_run_ok b bs rs (.inr hr)]
      simpa using hrest

/-! ## The writes of a character and of a text -/

/-- The bytes of `write_char`: each nibble with enable set and then cleared, the high nibble first (R173, R174). -/
def charWrites (p : LcdParams) (byte : Byte) (rs : Bool) : List Byte :=
  let high := controlByte p (byte.extractLsb' 4 4) rs
  let low := controlByte p (byte.extractLsb' 0 4) rs
  [high ||| (1#8 <<< p.enBit), high, low ||| (1#8 <<< p.enBit), low]

theorem length_charWrites (p : LcdParams) (byte : Byte) (rs : Bool) : (charWrites p byte rs).length = 4 := rfl

/-- The bytes of the wrap before the character at index `i`, if there is one (R176). -/
def wrapWrites (p : LcdParams) (i : Nat) : List Byte :=
  if 0 < i ∧ i % p.cols = 0 then charWrites p p.line2 false else []

/-- The bytes of `write_string` from the character at index `i` on, those of the wraps among them (R176). -/
def stringWrites (p : LcdParams) : Nat → List Byte → List Byte
  | _, [] => []
  | i, ch :: text => wrapWrites p i ++ (charWrites p ch true ++ stringWrites p (i + 1) text)

theorem withoutDelays_writeChar (p : LcdParams) (byte : Byte) (rs : Bool) :
    (writeChar p byte rs).withoutDelays = issueWrites p (charWrites p byte rs) := by
  simp [writeChar, sendNibble, inSequence, charWrites]

theorem withoutDelays_writeStringFrom (p : LcdParams) (i : Nat) (text : List Byte) :
    (writeStringFrom p i text).withoutDelays = issueWrites p (stringWrites p i text) := by
  induction text generalizing i with
  | nil => rfl
  | cons ch text ih =>
    have hwrap : (if 0 < i ∧ i % p.cols = 0 then writeChar p p.line2 false else .done 0#32).withoutDelays =
        issueWrites p (wrapWrites p i) := by
      rw [wrapWrites]
      split
      · exact withoutDelays_writeChar p p.line2 false
      · rfl
    rw [writeStringFrom, stringWrites, withoutDelays_andThen, withoutDelays_andThen, hwrap, withoutDelays_writeChar, ih,
      issueWrites_append, issueWrites_append]

/-- The quotient grows by one exactly at the indices that have a wrap before them (R176). -/
theorem length_wrapWrites (p : LcdParams) (i : Nat) :
    (wrapWrites p i).length + 4 * ((i - 1) / p.cols) = 4 * (i / p.cols) := by
  cases i with
  | zero => simp [wrapWrites]
  | succ j =>
    simp only [wrapWrites, Nat.succ_div, Nat.dvd_iff_mod_eq_zero]
    by_cases h : (j + 1) % p.cols = 0
    · simp [h, length_charWrites]
      omega
    · simp [h]

/-- Four writes a character and a wrap, the wraps counted by the quotients at both ends of the text (R176). -/
theorem length_stringWrites (p : LcdParams) (i : Nat) (text : List Byte) :
    (stringWrites p i text).length + 4 * ((i - 1) / p.cols) = 4 * (text.length + (i + text.length - 1) / p.cols) := by
  induction text generalizing i with
  | nil => simp [stringWrites]
  | cons ch text ih =>
    have hrest := ih (i + 1)
    have hwrap := length_wrapWrites p i
    have hend : i + 1 + text.length - 1 = i + (text.length + 1) - 1 := by omega
    rw [hend, Nat.add_sub_cancel] at hrest
    simp only [stringWrites, List.length_append, List.length_cons, length_charWrites]
    omega

end Sys2Proof.Machine

namespace Sys2Proof.Proofs

open Sys2Proof.Machine

/-! ## The obligations -/

/-- Settles O60: without its delays `write_string` is the writes of its characters and wraps, counted by the quotients
of the indices. -/
theorem writeStringBusWrites : Obligations.WriteStringBusWrites := by
  unfold Obligations.WriteStringBusWrites
  intro p text answers _ hlen hok
  have hcount : (stringWrites p 0 text).length = 4 * (text.length + (text.length - 1) / p.cols) := by
    simpa using length_stringWrites p 0 text
  obtain ⟨hwrites, hresult⟩ := (writeString p text).run_withoutDelays answers
  rw [writeString, withoutDelays_writeStringFrom] at hwrites hresult
  obtain ⟨hbytes, hdone⟩ := busWrites_issueWrites_of_ok (hcount ▸ hlen)
    (hok.imp_right fun h r hr => h r (List.mem_of_mem_take hr))
  exact ⟨by rw [writeString, ← hwrites, hbytes, hcount], hresult.symm.trans hdone⟩

/-- Settles O59: without its delays `write_char` is the four writes, issued up to the first error the host surfaces. -/
theorem writeCharIsFourBusWrites : Obligations.WriteCharIsFourBusWrites := by
  unfold Obligations.WriteCharIsFourBusWrites
  intro p byte rs answers hlen
  obtain ⟨hwrites, hresult⟩ := (writeChar p byte rs).run_withoutDelays answers
  rw [withoutDelays_writeChar] at hwrites hresult
  simp only [← hwrites, ← hresult]
  exact ⟨busWrites_issueWrites_of_ok (bytes := charWrites p byte rs) hlen,
    fun hp _ _ hk => busWrites_issueWrites_of_error (bytes := charWrites p byte rs) hp hk⟩

end Sys2Proof.Proofs
end

section
/-! Proofs of the exception obligations (60_exceptions.md): the interrupt contexts put nothing on the bus or the serial
port (R202), and every field is written by its owners only (R201, R108). -/

namespace Sys2Proof.Machine

open Sys2Proof.Safety

/-! ## The interrupt contexts and the ports -/

/-- From `s` to `t` nothing was put on the two-wire bus or the serial port (R202). -/
def PortsUntouched (s t : State) : Prop := ∃ es, t.out = s.out ++ es ∧ ∀ e ∈ es, touchesPort e = false

theorem PortsUntouched.of_out_same {s t : State} (h : t.out = s.out) : PortsUntouched s t := ⟨[], by simp [h], by simp⟩

theorem PortsUntouched.of_event {s t : State} {e : OutEvent} (h : t.out = s.out ++ [e]) (he : touchesPort e = false) :
    PortsUntouched s t :=
  ⟨[e], h, by simpa using he⟩

/-- DTE's part of a tick emits nothing, and the timeout only its response (R108, R132). -/
theorem portsUntouched_tickStep (raw : Bool) (s : State) : PortsUntouched s (tickStep raw s) := by
  have counted := dteStep_out raw s
  unfold tickStep
  rcases busTimeout_cases (dteStep raw s) with ⟨-, k⟩ | ⟨-, n, -, ⟨-, k⟩ | ⟨-, k⟩⟩ <;> rw [k]
  · exact .of_out_same counted
  · exact .of_event (e := .rsp (busErrorCode .timeout)) (by simp) rfl
  · exact .of_out_same counted

/-- A conversion that ends shows at most the enable line (R142, R143). -/
theorem portsUntouched_captureSample (sample : Nat) (s : State) : PortsUntouched s (captureSample sample s) := by
  unfold captureSample driveAdcEnable
  split
  · exact .of_event (e := .adcEn false) rfl rfl
  · exact .of_out_same rfl

/-! ## Who writes which field: a lemma per row of the ownership table (R201) -/

section
variable {i : Instr} (s : State)

/-- The trigger is set by a tick and cleared by `SER_LINE` (R131, R149). -/
theorem effect_serTrig (htick : ∀ raw, i ≠ .tick raw) (hline : i ≠ .serLine) : (effect i s).serTrig = s.serTrig := by
  cases i with
  | tick raw => exact absurd rfl (htick raw)
  | serLine => exact absurd rfl hline
  | serTx byte => exact (beginSend_sameDte _ _ s).serTrig
  | serRxpoll => exact (pollReceive_sameDte s).serTrig
  | _ => simp [effect, startWrite, startConversion, captureSample]

/-- The sample is written by the conversion's end (R143). -/
theorem effect_sample (hdone : ∀ n, i ≠ .convDone n) : (effect i s).sample = s.sample := by
  cases i with
  | convDone n => exact absurd rfl (hdone n)
  | _ => simp [effect, startWrite, startConversion, tickStep]

/-- The conversion's state is written by its start and its end (R141, R143). -/
theorem effect_conversion (hdone : ∀ n, i ≠ .convDone n) (hstart : i ≠ .adcStart) :
    (effect i s).convPending = s.convPending ∧ (effect i s).adcEn = s.adcEn := by
  cases i with
  | convDone n => exact absurd rfl (hdone n)
  | adcStart => exact absurd rfl hstart
  | _ => simp [effect, startWrite, tickStep]

/-- The transmission flag is written by `SER_RXPOLL` (R154). -/
theorem effect_serEn (hpoll : i ≠ .serRxpoll) : (effect i s).serEn = s.serEn := by
  cases i with
  | serRxpoll => exact absurd rfl hpoll
  | serTx byte => exact beginSend_keeps (·.serEn) _ _ s fun _ _ _ _ _ _ => rfl
  | serLine => exact sendLine_keeps (·.serEn) s fun _ _ _ _ _ _ => rfl
  | _ => simp [effect, startWrite, startConversion, tickStep, captureSample]

/-- The host port is taken by the blocking commands and freed by the events that answer them; a command that does not
block finds it free and leaves it free (R82). -/
theorem effect_hostOp (hadmit : i.isEvent = false → s.hostOp = .none) (hwrite : ∀ d b, i ≠ .twWrite d b)
    (hsend : ∀ b, i ≠ .serTx b) (hline : i ≠ .serLine) (hready : ∀ status, i ≠ .twReady status) (htxe : i ≠ .serTxe)
    (htick : ∀ raw, i ≠ .tick raw) : (effect i s).hostOp = s.hostOp := by
  cases i with
  | twWrite d b => exact absurd rfl (hwrite d b)
  | serTx b => exact absurd rfl (hsend b)
  | serLine => exact absurd rfl hline
  | twReady status => exact absurd rfl (hready status)
  | serTxe => exact absurd rfl htxe
  | tick raw => exact absurd rfl (htick raw)
  | adcStart => exact (hadmit rfl).symm
  | rd sel => exact (hadmit rfl).symm
  | serRxpoll =>
    have freed : (pollReceive s).hostOp = .none := by
      unfold pollReceive
      split <;> rfl
    exact freed.trans (hadmit rfl).symm
  | convDone n => simp [effect, captureSample]
  | serRx b => rfl

/-- The queue, its length and the port's mirror are written where bytes are queued or pumped (R146 to R149). -/
theorem effect_serial (hsend : ∀ b, i ≠ .serTx b) (hline : i ≠ .serLine) (htxe : i ≠ .serTxe) :
    (effect i s).serTxe = s.serTxe ∧ (effect i s).serQ = s.serQ ∧ (effect i s).serN = s.serN := by
  cases i with
  | serTx b => exact absurd rfl (hsend b)
  | serLine => exact absurd rfl hline
  | serTxe => exact absurd rfl htxe
  | serRxpoll => simpa [effect] using pollReceive_keeps (fun t => (t.serTxe, t.serQ, t.serN)) s fun _ _ _ _ _ => rfl
  | _ => simp [effect, startWrite, startConversion, tickStep, captureSample]

/-- The received byte is written by `SER_RX`, and its flag by `SER_RXPOLL` too (R152, R154). -/
theorem effect_received (hrx : ∀ b, i ≠ .serRx b) :
    (effect i s).rxByte = s.rxByte ∧ (i ≠ .serRxpoll → (effect i s).rxReady = s.rxReady) := by
  cases i with
  | serRx b => exact absurd rfl (hrx b)
  | serRxpoll => exact ⟨pollReceive_keeps (·.rxByte) s fun _ _ _ _ _ => rfl, absurd rfl⟩
  | serTx b => simpa [effect] using beginSend_keeps (fun t => (t.rxByte, t.rxReady)) _ _ s fun _ _ _ _ _ _ => rfl
  | serLine => simpa [effect] using sendLine_keeps (fun t => (t.rxByte, t.rxReady)) s fun _ _ _ _ _ _ => rfl
  | _ => simp [effect, startWrite, startConversion, tickStep, captureSample]

/-- The transaction's operands are written by `TW_WRITE` (R102). -/
theorem effect_busOperands (hwrite : ∀ d b, i ≠ .twWrite d b) :
    (effect i s).twAddr = s.twAddr ∧ (effect i s).twData = s.twData := by
  cases i with
  | twWrite d b => exact absurd rfl (hwrite d b)
  | serTx b => simpa [effect] using beginSend_keeps (fun t => (t.twAddr, t.twData)) _ _ s fun _ _ _ _ _ _ => rfl
  | serLine => simpa [effect] using sendLine_keeps (fun t => (t.twAddr, t.twData)) s fun _ _ _ _ _ _ => rfl
  | serRxpoll => simpa [effect] using pollReceive_keeps (fun t => (t.twAddr, t.twData)) s fun _ _ _ _ _ => rfl
  | _ => simp [effect, startConversion, tickStep, captureSample]

/-- The phase and its wait are written by `TW_WRITE`, by a ready and by the timeout in a tick (R102 to R108). -/
theorem effect_busPhase (hwrite : ∀ d b, i ≠ .twWrite d b) (hready : ∀ status, i ≠ .twReady status)
    (htick : ∀ raw, i ≠ .tick raw) : (effect i s).twPhase = s.twPhase ∧ (effect i s).twWait = s.twWait := by
  cases i with
  | twWrite d b => exact absurd rfl (hwrite d b)
  | twReady status => exact absurd rfl (hready status)
  | tick raw => exact absurd rfl (htick raw)
  | serTx b => simpa [effect] using beginSend_keeps (fun t => (t.twPhase, t.twWait)) _ _ s fun _ _ _ _ _ _ => rfl
  | serLine => simpa [effect] using sendLine_keeps (fun t => (t.twPhase, t.twWait)) s fun _ _ _ _ _ _ => rfl
  | serRxpoll => simpa [effect] using pollReceive_keeps (fun t => (t.twPhase, t.twWait)) s fun _ _ _ _ _ => rfl
  | _ => simp [effect, startConversion, captureSample]

end

end Sys2Proof.Machine

namespace Sys2Proof.Proofs

open Sys2Proof.Machine

/-! ## The obligations -/

/-- Settles O56: of the two interrupt contexts' events, a tick can emit a response, a conversion's end the enable
line. -/
theorem interruptsTouchNoPort : Obligations.InterruptsTouchNoPort := by
  unfold Obligations.InterruptsTouchNoPort
  intro i s t hi h
  obtain ⟨rfl, -⟩ := exec_next h
  rcases hi with ⟨raw, rfl⟩ | ⟨n, rfl⟩
  · exact portsUntouched_tickStep raw s
  · exact portsUntouched_captureSample n.toNat s

/-- Settles O57: an admitted stimulus leaves its effect, and each row of the table is a frame of the effect. -/
theorem fieldsChangeOnlyByTheirOwners : Obligations.FieldsChangeOnlyByTheirOwners := by
  unfold Obligations.FieldsChangeOnlyByTheirOwners
  intro i s t h
  obtain ⟨rfl, hadmit⟩ := exec_next h
  refine ⟨effect_cfg i s, effect_stimuli i s, fun htick => ?timing, effect_serTrig s, effect_sample s,
    effect_conversion s, effect_serEn s, effect_hostOp s hadmit, effect_serial s, effect_received s, fun hwrite => ?bus⟩
  case timing =>
    obtain ⟨raw, rfl⟩ | ⟨trig, -, same⟩ := effect_dte i s
    · exact absurd rfl (htick raw)
    · exact ⟨same.debounced, same.rawSample, same.prevRaw, same.reliable, same.tickCnt, same.modeCnt, same.ratioCnt,
        same.serCnt, same.outMode, same.outRatio⟩
  case bus =>
    obtain ⟨haddr, hdata⟩ := effect_busOperands s hwrite
    exact ⟨haddr, hdata, effect_busPhase s hwrite⟩

end Sys2Proof.Proofs
end
